-- ==== Sys2Proof/Word.lean ====
section
/-! DEFINITION. The widths of the block's values (spec/00_scope.md R8, spec/30_encoding.md R60 to R63, R68), each in
this one place (spec/70_reset_and_hazards.md R171): every other file takes a width from the type. -/

namespace Sys2Proof

/-- An unsigned byte: `ANGLE`, `DOUT`, a converter result register (R8 ANGLE_WIDTH, R63, R80). -/
abbrev Byte := BitVec 8

/-- A 16-bit sample pattern (R8 RAW_WIDTH, R60); its value as a number is `BitVec.toInt` (`sext_16`, R9). -/
abbrev Sample := BitVec 16

/-- The 9-bit frame (R8 FRAME_WIDTH, R62). -/
abbrev Frame := BitVec 9

/-- The 6-bit selector word, bits 5 to 0 = ACKF, TXF, G50, G2, ZN, DIN (R68). -/
abbrev Sel := BitVec 6

end Sys2Proof
end

