-- ==== Sys2Proof/Syntax.lean ====
section
/-! DEFINITION. The operations of spec/opcode_table.json, one constructor per row: nine tick operations (format SEL6,
spec/30_encoding.md R70) and twelve datapath functions (format FN, R71). -/

namespace Sys2Proof

/-- The 21 operations of the table. A tick operation has no operand: the bits outside its row's mask are don't-cares
(R70). A pure datapath function carries its operands; a register update takes its operands from the state. -/
inductive Instr where
  /-- IDLE_WAIT (42_link_fsm.md R103). -/
  | idleWait
  /-- IDLE_SAMPLE (R104). -/
  | idleSample
  /-- TX_HOLD (R106). -/
  | txHold
  /-- TX_HOLD_END (R109). -/
  | txHoldEnd
  /-- TX_SHIFT (R107). -/
  | txShift
  /-- TX_SHIFT_END (R108). -/
  | txShiftEnd
  /-- ACK_WAIT (R110). -/
  | ackWait
  /-- ACK_DONE (R111). -/
  | ackDone
  /-- FATAL (R112). -/
  | fatal
  /-- RAWCAT: the low and the high result byte (40_signal_mapper.md R80). -/
  | rawcat (lo hi : Byte)
  /-- TOVOLT: a signed sample (R81). -/
  | tovolt (raw : Sample)
  /-- TOANGLE: a voltage in volts (R82). -/
  | toangle (v : Rat)
  /-- V2A: a signed sample (R83). -/
  | v2a (raw : Sample)
  /-- FRLOAD: loads `FRAME` from `ANGLE` (41_frame.md R92). -/
  | frload
  /-- FREMIT (R93). -/
  | fremit
  /-- FRSHIFT (R94). -/
  | frshift
  /-- FRZERO (R95). -/
  | frzero
  /-- GATE50 (43_clock_divider.md R119). -/
  | gate50
  /-- GATE2 (R120). -/
  | gate2
  /-- CLKUPD (R122). -/
  | clkupd
  /-- TICKINC (R124). -/
  | tickinc
  deriving DecidableEq, Repr

end Sys2Proof
end

