-- ==== Sys2Proof/Decode.lean ====
section
/-! DEFINITION. The decoder of ticks, its operation map and the encoder (spec/30_encoding.md R68 to R73, R78). The
"word" of a tick operation is the selector value of its tick; it travels as one byte whose bits 7:6 are 0 (log
entry 8). The datapath functions have no word (R71). -/

namespace Sys2Proof

/-- R69: the flags first, then G50 in IDLE, G2 and ZN in TRANSMIT, the line in ACKNOWLEDGE. Total on all 64 values,
the arithmetically impossible ones included (R72). -/
def decodeSel (w : Sel) : Instr :=
  match w.getLsbD 5, w.getLsbD 4 with
  | true, true => .fatal
  | false, false => if w.getLsbD 3 then .idleSample else .idleWait
  | false, true =>
    if w.getLsbD 2 then (if w.getLsbD 1 then .txShiftEnd else .txShift)
    else (if w.getLsbD 1 then .txHoldEnd else .txHold)
  | true, false => if w.getLsbD 0 then .ackDone else .ackWait

/-- Why bytes are no tick word. -/
inductive DecodeError where
  /-- There is no byte. -/
  | noByte
  /-- Bits 7:6 of the byte are not 0: a selector has six bits (R68). -/
  | highBits
  deriving DecidableEq, Repr

/-- What the decoder answers: an operation and the bytes after it, or a rejection by name. -/
inductive Decoded where
  | ok (i : Instr) (rest : List Byte)
  | rejected (e : DecodeError)
  deriving DecidableEq, Repr

/-- Decode the first byte of a list (R69, R70). -/
def decode : List Byte → Decoded
  | [] => .rejected .noByte
  | b :: rest =>
    if b.extractLsb' 6 2 = 0 then .ok (decodeSel (b.extractLsb' 0 6)) rest else .rejected .highBits

/-- One row of the operation map of R70: a selector value `w` matches when `w AND mask` equals `pattern`. -/
structure SelRow where
  instr : Instr
  mask : Sel
  pattern : Sel
  deriving DecidableEq, Repr

/-- Does a row match a selector value (R70). -/
def SelRow.matchesWord (r : SelRow) (w : Sel) : Bool :=
  (w &&& r.mask) == r.pattern

/-- The operation map of R70, in its order. -/
def selTable : List SelRow :=
  [ ⟨.idleWait, 0x38, 0x00⟩, ⟨.idleSample, 0x38, 0x08⟩, ⟨.txHold, 0x36, 0x10⟩, ⟨.txHoldEnd, 0x36, 0x12⟩,
    ⟨.txShift, 0x36, 0x14⟩, ⟨.txShiftEnd, 0x36, 0x16⟩, ⟨.ackWait, 0x31, 0x20⟩, ⟨.ackDone, 0x31, 0x21⟩,
    ⟨.fatal, 0x30, 0x30⟩ ]

/-- The word of a tick operation with its don't-care bits 0, the `match` column of R70; none for a datapath function,
which is selected by nothing (R59, R71). -/
def encodeSel : Instr → Option Sel
  | .idleWait => some 0x00
  | .idleSample => some 0x08
  | .txHold => some 0x10
  | .txHoldEnd => some 0x12
  | .txShift => some 0x14
  | .txShiftEnd => some 0x16
  | .ackWait => some 0x20
  | .ackDone => some 0x21
  | .fatal => some 0x30
  | .rawcat _ _ => none
  | .tovolt _ => none
  | .toangle _ => none
  | .v2a _ => none
  | .frload => none
  | .fremit => none
  | .frshift => none
  | .frzero => none
  | .gate50 => none
  | .gate2 => none
  | .clkupd => none
  | .tickinc => none

/-- The bits of a row's word that the row leaves open, in R70's columns: an encoding admits every value of them. -/
def dontCare : Instr → Sel
  | .idleWait => 0x07
  | .idleSample => 0x07
  | .txHold => 0x09
  | .txHoldEnd => 0x09
  | .txShift => 0x09
  | .txShiftEnd => 0x09
  | .ackWait => 0x0E
  | .ackDone => 0x0E
  | .fatal => 0x0F
  | .rawcat _ _ => 0
  | .tovolt _ => 0
  | .toangle _ => 0
  | .v2a _ => 0
  | .frload => 0
  | .fremit => 0
  | .frshift => 0
  | .frzero => 0
  | .gate50 => 0
  | .gate2 => 0
  | .clkupd => 0
  | .tickinc => 0

/-- The bytes of an operation, `fill` supplying its don't-care bits (R70); none where it has no word (R71). -/
def encodeWith (fill : Sel) (i : Instr) : Option (List Byte) :=
  (encodeSel i).map fun w => [BitVec.setWidth _ (w ||| (fill &&& dontCare i))]

/-- The bytes of an operation with its don't-care bits 0. -/
def encode (i : Instr) : Option (List Byte) :=
  encodeWith 0 i

/-- The low `n` bytes of a number, the least significant first. -/
def bytesOf : Nat → Nat → List Byte
  | 0, _ => []
  | n + 1, w => BitVec.ofNat _ w :: bytesOf n (w / 256)

/-- What the decoder reads from a table word of `nbits` bits: exactly one byte must be there (R59: one tick, one
operation). -/
def decodeTableWord (nbits w : Nat) : Option Instr :=
  match decode (bytesOf ((nbits + 7) / 8) w) with
  | .ok i [] => some i
  | .ok _ (_ :: _) => none
  | .rejected _ => none

end Sys2Proof
end

