-- ==== Sys2Proof/Config.lean ====
section
/-! DEFINITION. What an implementation fixes (the open parameters of spec/00_scope.md R8) and the free values: the
answers of the environment and the one angle the spec leaves unspecified. -/

namespace Sys2Proof

/-- The OPEN parameters a model takes as arguments (R8, 10_state.md R33, 92_eei_decisions.md D2 and D14).
DESIGN CHOICE (log entry 5): they are carried in the state, so that every statement holds for all of them. -/
structure Params where
  /-- TICK_WIDTH, the width W of the tick counter; default 32 (R8). -/
  tickWidth : Nat := 32
  /-- TICK0, the count at reset; default 0 (R33, R151). -/
  tick0 : Nat := 0
  deriving DecidableEq, Repr

/-- Free value (log entry 3): is `rst` asserted in the n-th draw of the inputs (R149). -/
opaque Config.rstAt : Nat → Bool

/-- Free value (log entry 3): do the converter's settings settle, sooner or later, in the n-th draw (R45, R46). -/
opaque Config.settlesAt : Nat → Bool

/-- Free value (log entry 3): does the conversion end, sooner or later, in the n-th draw (R46, R47). -/
opaque Config.convertsAt : Nat → Bool

/-- Free value (log entry 3): the converter's low result register in the n-th draw (R40, R46). -/
opaque Config.resultLowAt : Nat → Byte

/-- Free value (log entry 3): the converter's high result register in the n-th draw (R40, R46). -/
opaque Config.resultHighAt : Nat → Byte

/-- Free value (log entry 3): the level on the data line in the n-th draw (R54; 93_implementation_defined.md U7). -/
opaque Config.dataInAt : Nat → Bool

/-- Free value (log entry 7): the narrowed result of TOANGLE for a voltage outside the range the spec gives
(R84; 93_implementation_defined.md U3: any value in 0..255, neither a wrap nor a saturation). -/
opaque Config.angleOutsideRange : Rat → Byte

end Sys2Proof
end

