-- ==== Sys2Proof/Machine/Constants.lean ====
section
/-! DEFINITION. The numeric literals of the spec, each in one place (spec/00_scope.md R8, spec/30_encoding.md R65,
spec/70_reset_and_hazards.md R171). -/

namespace Sys2Proof.Machine

/-- SAMPLE_DIV (R8): IDLE samples when `TICK mod 50 == 0`. -/
def sampleDiv : Nat := 50

/-- BIT_DIV (R8): TRANSMIT emits when `TICK mod 2 == 0`. -/
def bitDiv : Nat := 2

/-- FULL_SCALE (R8): the divisor of the sample in the voltage formula. -/
def fullScale : Nat := 32768

/-- V_RANGE in volts (R8): volts at full scale, and the offset added before scaling. -/
def vRange : Nat := 5

/-- DEG_PER_VOLT (R8). -/
def degPerVolt : Nat := 15

/-- ANGLE_MAX (R8): the angle at -5.0 V. -/
def angleMax : Nat := 150

/-- The framing bit, the low bit of every loaded frame (R62, R65). -/
def framingBit : Bool := true

/-- ADC_GAIN_CODE (R8): the gain level `configure()` sets; environment only, no rule of the block reads it. -/
def adcGainCode : Nat := 2

/-- The multiplier of V2A, 75 = 5.0 * 15.0 (R65, R85). -/
def v2aMul : Nat := vRange * degPerVolt

/-- The offset of V2A, 2457600 = (150 - 5.0 * 15.0) * 32768 (R65, R85). -/
def v2aOffset : Int := ((angleMax : Int) - v2aMul) * fullScale

/-- The shift of V2A, log2 32768 (R65, R85). -/
def v2aShift : Nat := fullScale.log2

/-- The smallest tick-counter width the spec admits (R8). -/
def minTickWidth : Nat := 6

end Sys2Proof.Machine
end

