-- ==== Sys2Proof/Machine/Acquisition.lean ====
section
/-! DEFINITION. The acquisition as the environment's action sequences (spec/20_memory.md R44 to R49) and `Acquire()`
as the block sees it (R46): it answers a 16-bit pattern, or it does not answer. -/

namespace Sys2Proof.Machine

/-- The 16-bit pattern of two result bytes, `{high, low}` (20_memory.md R40, 30_encoding.md R60). -/
def rawPattern (lo hi : Byte) : Sample :=
  hi ++ lo

/-- The named actions of `configure()` (R45) and `triggerAndRead()` (R47). The source gives no register, bit position
or channel number for any of them (R38, R45). -/
inductive AcqAction where
  /-- "sets the sampling channel pair (single channel, start==end)". -/
  | setChannelPair
  /-- "disables auto-sampling interrupts". -/
  | disableAutoSamplingInterrupts
  /-- "sets a gain code". -/
  | setGain (code : Nat)
  /-- "selects the control/paging register bank". -/
  | selectControlBank
  /-- "selects single-ended bipolar sampling mode". -/
  | selectSingleEndedBipolar
  /-- busy-wait on the "registers settling" status bit, without timeout (R45, R49). -/
  | waitSettled
  /-- "sets the start-conversion command bit". -/
  | startConversion
  /-- busy-wait on the "conversion in progress" status bit, without timeout (R47, R49). -/
  | waitConverted
  /-- "reads and combines the two result registers". -/
  | readResult
  deriving DecidableEq, Repr

/-- `configure()`, in its order (R45). -/
def configureActions : List AcqAction :=
  [.setChannelPair, .disableAutoSamplingInterrupts, .setGain adcGainCode, .selectControlBank,
    .selectSingleEndedBipolar, .waitSettled]

/-- `triggerAndRead()`, in its order (R47). -/
def triggerAndReadActions : List AcqAction :=
  [.startConversion, .waitConverted, .readResult]

/-- "one full sample": `configure()` then `triggerAndRead()` (R46). Whether `configure()` runs at every sample is not
in the source and makes no difference to the block (R48). -/
def acquireActions : List AcqAction :=
  configureActions ++ triggerAndReadActions

/-- What the converter does in one `Acquire()`: do its two status bits ever clear, and what its result registers then
hold. -/
structure Converter where
  settles : Bool
  converts : Bool
  low : Byte
  high : Byte
  deriving DecidableEq, Repr

/-- Run a sequence of actions against a converter: a wait whose bit does not clear gives no answer (R46, R49). -/
def runAcq (c : Converter) : List AcqAction → Option Sample
  | [] => none
  | .setChannelPair :: as => runAcq c as
  | .disableAutoSamplingInterrupts :: as => runAcq c as
  | .setGain _ :: as => runAcq c as
  | .selectControlBank :: as => runAcq c as
  | .selectSingleEndedBipolar :: as => runAcq c as
  | .waitSettled :: as => if c.settles then runAcq c as else none
  | .startConversion :: as => runAcq c as
  | .waitConverted :: as => if c.converts then runAcq c as else none
  | .readResult :: _ => some (rawPattern c.low c.high)

/-- `Acquire()` against a converter (R46). -/
def acquire (c : Converter) : Option Sample :=
  runAcq c acquireActions

/-- The converter in the n-th draw: free (log entry 3). -/
def converterAt (n : Nat) : Converter :=
  ⟨Config.settlesAt n, Config.convertsAt n, Config.resultLowAt n, Config.resultHighAt n⟩

/-- `raw_valid` in the n-th draw: `Acquire()` returns, however long it takes (R28, R46, R52; log entry 2). -/
def rawValidAt (n : Nat) : Bool :=
  (acquire (converterAt n)).isSome

/-- `raw_in` in the n-th draw, `{high byte, low byte}` (R28); it counts only with `raw_valid` 1. -/
def rawInAt (n : Nat) : Sample :=
  rawPattern (Config.resultLowAt n) (Config.resultHighAt n)

end Sys2Proof.Machine
end

