-- ==== Sys2Proof/Machine/State.lean ====
section
/-! DEFINITION. The machine's state (spec/10_state.md R13, R28): the block's registers, the inputs of the coming
step and the model's own bench; its reset value (R33) and the two reason types. -/

namespace Sys2Proof.Machine

/-- The three legal protocol states (10_state.md R16, R17). -/
inductive Phase where
  | idle
  | transmit
  | acknowledge
  deriving DecidableEq, Repr

/-- The answer of a datapath function executed as an instruction of its own (log entry 6). -/
inductive FnOut where
  /-- No datapath function has been executed on its own. -/
  | none
  /-- RAWCAT's signed sample (40_signal_mapper.md R80). -/
  | sample (raw : Int)
  /-- TOVOLT's voltage in volts (R81). -/
  | volts (v : Rat)
  /-- The angle of TOANGLE or V2A (R82, R83). -/
  | angle (a : Byte)
  /-- The bit of FRZERO, GATE50 or GATE2 (41_frame.md R95, 43_clock_divider.md R119, R120). -/
  | bit (b : Bool)
  deriving DecidableEq, Repr

/-- What the block itself holds: the ten registers of R13 (`STATE` is derived, R17), and the port `sample_req`, which
stands at 1 between steps only while a sampling tick cannot end (R28, 20_memory.md R52, 60_exceptions.md R136). -/
@[ext]
structure Registers where
  /-- `TXF` (R14). -/
  txf : Bool
  /-- `ACKF` (R15). -/
  ackf : Bool
  /-- `FRAME[8:0]` (R19). -/
  frame : Frame
  /-- `TICK[W-1:0]` as an unsigned number, W = TICK_WIDTH (R20; log entry 5). -/
  tick : Nat
  /-- `CLK` (R25). -/
  clk : Bool
  /-- `DOUT[7:0]` (R21). -/
  dout : Byte
  /-- `DIR`: true when the block drives the data line (R26). -/
  dir : Bool
  /-- `RAW[15:0]` (R22). -/
  raw : Sample
  /-- `ANGLE[7:0]` (R23). -/
  angle : Byte
  /-- `FAULT` (R27). -/
  fault : Bool
  /-- `sample_req`: up while a sampling tick waits for its sample (R28, R52; log entries 2 and 18). -/
  sampleReq : Bool
  deriving DecidableEq, Repr

/-- What the environment gives a step: the input ports of R28. They are no state of the block (00_scope.md R10, R31);
log entry 3 says why the closed machine carries the coming step's inputs. -/
structure Inputs where
  /-- `rst` (R28, 70_reset_and_hazards.md R149). -/
  rst : Bool
  /-- `raw_in`, the pattern `Acquire()` returns if it does (R28, 20_memory.md R46). -/
  rawIn : Sample
  /-- `raw_valid` is seen in the coming tick: `Acquire()` returns, however long it takes (R28, R46, R52; log entry 2). -/
  rawValid : Bool
  /-- `data_in`, what `LineRead()` returns (R28, R54). -/
  dataIn : Bool
  deriving DecidableEq, Repr

/-- MODEL's own, no state of the block (R31): what stands around it. -/
structure Bench where
  /-- The open parameters; nothing writes them (00_scope.md R8; log entry 5). -/
  params : Params
  /-- How many times the environment has been drawn (log entry 3). -/
  draws : Nat
  /-- The answer of the last datapath function executed on its own; no tick writes it (log entry 6). -/
  fnOut : FnOut
  deriving DecidableEq, Repr

/-- The closed machine: the block, the inputs of its coming step, and the bench around it. -/
structure State extends Registers, Inputs, Bench where
  deriving DecidableEq, Repr

/-- Why a step has no next state. No hardware fault stands here: the fatal condition is the register `FAULT`, and a
halted block has next states (60_exceptions.md R133; log entry 10). -/
inductive Fault where
  /-- No enabled step: the sampling tick in progress never ends, because `Acquire()` never returns (60_exceptions.md
  R136, 20_memory.md R46; log entry 2). Raised by `tickStep` alone, while `rst` is released. Safe: a run stops where the
  block performs no further tick. -/
  | stuckInAcquisition
  deriving DecidableEq, Repr

/-- The refusals. -/
inductive Refusal where
  /-- Raised only by an arm of `exec` whose operation has no meaning yet; no arm is such an arm. Safe: a run stops. -/
  | notModelled (mnemonic : String)
  deriving DecidableEq, Repr

/-- The registers at R33's values, `TICK` at TICK0 (R33, R151), `sample_req` low (log entry 2). -/
def Registers.resetWith (p : Params) : Registers where
  txf := false
  ackf := false
  frame := 0x000
  tick := p.tick0 % 2 ^ p.tickWidth
  clk := false
  dout := 0x00
  dir := false
  raw := 0x0000
  angle := 0x00
  fault := false
  sampleReq := false

/-- The environment's free answers in the n-th draw (log entry 3). -/
def inputsAt (n : Nat) : Inputs where
  rst := Config.rstAt n
  rawIn := rawInAt n
  rawValid := rawValidAt n
  dataIn := Config.dataInAt n

/-- Right after reset with given parameters: every register at R33's value, `rst` released (R149), the other inputs free
(log entry 3). -/
def State.resetWith (p : Params) : State where
  toRegisters := Registers.resetWith p
  toInputs := { inputsAt 0 with rst := false }
  params := p
  draws := 1
  fnOut := .none

/-- Right after reset with the spec's default parameters W = 32 and TICK0 = 0 (R8, R33). -/
def State.reset : State :=
  State.resetWith ⟨32, 0⟩

end Sys2Proof.Machine
end

