-- ==== Sys2Proof/WellFormed.lean ====
section
/-! DEFINITION. Which operations, selector words and parameters the spec admits. -/

namespace Sys2Proof

/-- The voltages on which the spec gives TOANGLE a result: the range a sample can give, and the source's end point
+5.0 V (40_signal_mapper.md R81, R82, R84). -/
def voltageInRange (v : Rat) : Bool :=
  decide (-(Machine.vRange : Rat) ≤ v) && decide (v ≤ (Machine.vRange : Rat))

/-- An operation is well formed when its operands lie where the spec gives the operation a result; only TOANGLE has
an operand type wider than that (R84). -/
def Instr.wellFormed : Instr → Bool
  | .idleWait => true
  | .idleSample => true
  | .txHold => true
  | .txHoldEnd => true
  | .txShift => true
  | .txShiftEnd => true
  | .ackWait => true
  | .ackDone => true
  | .fatal => true
  | .rawcat _ _ => true
  | .tovolt _ => true
  | .toangle v => voltageInRange v
  | .v2a _ => true
  | .frload => true
  | .fremit => true
  | .frshift => true
  | .frzero => true
  | .gate50 => true
  | .gate2 => true
  | .clkupd => true
  | .tickinc => true

/-- A selector word the arithmetic allows: `G50 = 1` implies `G2 = 1` (30_encoding.md R72, 43_clock_divider.md R121).
The decoder still gives the other sixteen words a row (R72). -/
def selReachable (w : Sel) : Bool :=
  !w.getLsbD 3 || w.getLsbD 2

/-- The parameters the spec admits: W at least 6 and a start count that fits the counter (00_scope.md R8, R33). -/
def Params.wellFormed (p : Params) : Bool :=
  decide (Machine.minTickWidth ≤ p.tickWidth) && decide (p.tick0 < 2 ^ p.tickWidth)

end Sys2Proof
end

