-- ==== Sys2Proof/Machine/Operands.lean ====
section
/-! DEFINITION. Operand assembly and the values the datapath functions compute (spec/30_encoding.md R60 to R65,
spec/40_signal_mapper.md R80 to R84, spec/41_frame.md R92 to R94). -/

namespace Sys2Proof.Machine

/-- RAWCAT's value: the pattern `{hi, lo}` read as a signed number (R80). -/
def rawcatValue (lo hi : Byte) : Int :=
  (rawPattern lo hi).toInt

/-- TOVOLT's value: `raw / 32768 * 5.0` in real arithmetic (R81). -/
def toVolt (raw : Int) : Rat :=
  (raw : Rat) / (fullScale : Rat) * (vRange : Rat)

/-- Truncation toward zero of a rational (00_scope.md R9). -/
def truncRat (x : Rat) : Int :=
  x.num.tdiv x.den

/-- TOANGLE's integer before narrowing: `trunc(150 - (v + 5.0) * 15.0)` (R82). -/
def toAngleInt (v : Rat) : Int :=
  truncRat ((angleMax : Rat) - (v + (vRange : Rat)) * (degPerVolt : Rat))

/-- TOANGLE's byte: in range every narrowing gives the integer itself; outside the range the spec leaves the byte
unspecified, and it is a free value (R84; log entry 7). -/
def toAngle (v : Rat) : Byte :=
  if voltageInRange v then BitVec.ofInt _ (toAngleInt v) else Config.angleOutsideRange v

/-- V2A's value: `((2457600 - 75 * raw) >> 15)[7:0]` in exact integers (R83, R89). -/
def v2aAngle (raw : Int) : Byte :=
  BitVec.ofInt _ ((v2aOffset - (v2aMul : Int) * raw) >>> v2aShift)

/-- The frame FRLOAD makes of an angle: `{ not_8(ANGLE), 1 }` (R62, R92). -/
def loadedFrame (a : Byte) : Frame :=
  (~~~a).concat framingBit

/-- The byte FREMIT makes of a frame: `not_8(FRAME[7:0])` (R63, R93). -/
def lineByte (f : Frame) : Byte :=
  ~~~(f.setWidth _)

/-- The frame after FRSHIFT: a logical right shift by one (R94). -/
def shiftedFrame (f : Frame) : Frame :=
  f >>> 1

end Sys2Proof.Machine
end

