-- ==== Sys2Proof/Machine/Flags.lean ====
section
/-! DEFINITION. The conditions of a tick: the two gates, the zero condition and the selector formed from them
(spec/30_encoding.md R67, R68, spec/41_frame.md R95, R96, spec/43_clock_divider.md R119, R120). -/

namespace Sys2Proof.Machine

/-- G50: the counter is a multiple of 50 (R119). -/
def gate50Bit (tick : Nat) : Bool :=
  tick % sampleDiv == 0

/-- G2: the counter is even (R120). -/
def gate2Bit (tick : Nat) : Bool :=
  tick % bitDiv == 0

/-- FRZERO: all nine bits of the frame are 0 (R95). -/
def frameIsZero (f : Frame) : Bool :=
  f == 0

/-- ZN: the frame is zero after this tick's shift, if the tick has one (R96). -/
def znBit (tick : Nat) (f : Frame) : Bool :=
  frameIsZero (if gate2Bit tick then shiftedFrame f else f)

/-- Six bits packed as a selector word (R68). -/
def packSel (ackf txf g50 g2 zn din : Bool) : Sel :=
  BitVec.ofBool ackf ++ BitVec.ofBool txf ++ BitVec.ofBool g50 ++ BitVec.ofBool g2 ++ BitVec.ofBool zn
    ++ BitVec.ofBool din

/-- SEL of a tick of a block whose line reads `din` (R68). Bit 0 is the line level; outside ACKNOWLEDGE it is a don't-care
(R67). -/
def Registers.selector (b : Registers) (din : Bool) : Sel :=
  packSel b.ackf b.txf (gate50Bit b.tick) (gate2Bit b.tick) (znBit b.tick b.frame) din

/-- SEL of the coming tick (R68). -/
def State.selector (s : State) : Sel :=
  s.toRegisters.selector s.dataIn

/-- `STATE`, the reading of the two flags; none is the illegal combination (10_state.md R17, 30_encoding.md R66). -/
def Registers.phase (b : Registers) : Option Phase :=
  match b.ackf, b.txf with
  | false, false => some .idle
  | false, true => some .transmit
  | true, false => some .acknowledge
  | true, true => none

/-- `STATE` of the block in a state. -/
def State.phase (s : State) : Option Phase :=
  s.toRegisters.phase

end Sys2Proof.Machine
end

