-- ==== Sys2Proof/Machine/Ops.lean ====
section
/-! DEFINITION. The named operations over the block's registers, shared by the meanings and by the tick of the spec, and
their lifting to the closed machine; the fatal exception, reset, and the environment's next inputs. -/

namespace Sys2Proof.Machine

/-! ## On the block's registers -/

/-- `STATE <- p`: both flags are written (10_state.md R17). -/
def Registers.setPhase (b : Registers) (p : Phase) : Registers :=
  { b with txf := p == .transmit, ackf := p == .acknowledge }

/-- `DIR <- v` (10_state.md R26, 20_memory.md R55). -/
def Registers.setDir (b : Registers) (v : Bool) : Registers :=
  { b with dir := v }

/-- Drive the port `sample_req` (20_memory.md R52). -/
def Registers.setSampleReq (b : Registers) (v : Bool) : Registers :=
  { b with sampleReq := v }

/-- `RAW <- p; ANGLE <- V2A(sext_16(RAW))` (42_link_fsm.md R104). -/
def Registers.takeSample (b : Registers) (p : Sample) : Registers :=
  { b with raw := p, angle := v2aAngle p.toInt }

/-- FRLOAD: `FRAME <- { not_8(ANGLE), 1 }` (41_frame.md R92). -/
def Registers.loadFrame (b : Registers) : Registers :=
  { b with frame := loadedFrame b.angle }

/-- FREMIT: `DOUT <- not_8(FRAME[7:0])` (R93). -/
def Registers.emit (b : Registers) : Registers :=
  { b with dout := lineByte b.frame }

/-- FRSHIFT: `FRAME <- FRAME >> 1` (R94). -/
def Registers.shiftFrame (b : Registers) : Registers :=
  { b with frame := shiftedFrame b.frame }

/-- CLKUPD: `CLK <- TICK mod 2`, with the counter not yet advanced (43_clock_divider.md R122). -/
def Registers.clkUpd (b : Registers) : Registers :=
  { b with clk := b.tick % bitDiv == 1 }

/-- TICKINC on a counter of `w` bits: `TICK <- (TICK + 1) mod 2^w` (R124). -/
def Registers.tickInc (b : Registers) (w : Nat) : Registers :=
  { b with tick := (b.tick + 1) % 2 ^ w }

/-- Steps (b) and (c) of a completed tick: CLKUPD, then TICKINC (R126). -/
def Registers.finishTick (b : Registers) (w : Nat) : Registers :=
  b.clkUpd.tickInc w

/-- IDLE_SAMPLE up to the answer: `DIR <- 1`, and the call of `Acquire()` raises `sample_req` (42_link_fsm.md R104,
20_memory.md R52; log entry 18). -/
def Registers.requestSample (b : Registers) : Registers :=
  (b.setDir true).setSampleReq true

/-- IDLE_SAMPLE from `Acquire()`'s answer `p` on: `RAW`, `ANGLE`, `FRAME`, `STATE <- TRANSMIT`; the request drops (R104,
R52). -/
def Registers.acceptSample (b : Registers) (p : Sample) : Registers :=
  (((b.setSampleReq false).takeSample p).loadFrame).setPhase .transmit

/-- The causes of the block's exceptions (60_exceptions.md R130). -/
inductive Cause where
  /-- A tick starts with both flags set (R131). -/
  | stateCorrupt
  deriving DecidableEq, Repr

/-- The cause's code, a tag no register holds (R130). -/
def Cause.code : Cause → Nat
  | .stateCorrupt => 1

/-- TAKING THE EXCEPTION, `raise Fatal(cause)`: `FAULT <- 1` and nothing else; nothing is saved and there is no handler
(R132, R133). That the tick ends at once is `tickCompletes`; that later ticks change nothing is `tickStep`. -/
def Registers.raiseFatal (_cause : Cause) (b : Registers) : Registers :=
  { b with fault := true }

/-! ## On the closed machine -/

/-- The machine with the block in other registers; the inputs and the bench stay. -/
def State.withBlock (s : State) (b : Registers) : State :=
  { s with toRegisters := b }

/-- The block's registers in a state. -/
def State.regs (s : State) : Registers :=
  s.toRegisters

/-- The machine with given inputs for its coming step (30_encoding.md R77: a tick line gives its inputs). -/
def State.withInputs (s : State) (i : Inputs) : State :=
  { s with toInputs := i }

def State.setPhase (s : State) (p : Phase) : State := s.withBlock (s.toRegisters.setPhase p)
def State.setDir (s : State) (v : Bool) : State := s.withBlock (s.toRegisters.setDir v)
def State.loadFrame (s : State) : State := s.withBlock s.toRegisters.loadFrame
def State.emit (s : State) : State := s.withBlock s.toRegisters.emit
def State.shiftFrame (s : State) : State := s.withBlock s.toRegisters.shiftFrame
def State.clkUpd (s : State) : State := s.withBlock s.toRegisters.clkUpd
def State.tickInc (s : State) : State := s.withBlock (s.toRegisters.tickInc s.params.tickWidth)
def State.finishTick (s : State) : State := s.withBlock (s.toRegisters.finishTick s.params.tickWidth)
def State.requestSample (s : State) : State := s.withBlock s.toRegisters.requestSample
def State.acceptSample (s : State) (p : Sample) : State := s.withBlock (s.toRegisters.acceptSample p)
def raiseFatal (c : Cause) (s : State) : State := s.withBlock (s.toRegisters.raiseFatal c)

/-- Leave the answer of a datapath function executed on its own (log entry 6). -/
def State.answer (s : State) (r : FnOut) : State :=
  { s with fnOut := r }

/-- RESET, the only way out of the halted condition (R134; 70_reset_and_hazards.md R149) and of a tick that never ends:
every register at R33's value; the parameters and the inputs stay. There is no return operation (R134). -/
def State.applyReset (s : State) : State :=
  { s with toRegisters := Registers.resetWith s.params, fnOut := .none }

/-- The environment chooses the inputs of the next step: the next free values (log entry 3). -/
def State.redraw (s : State) : State :=
  { s with toInputs := inputsAt s.draws, draws := s.draws + 1 }

end Sys2Proof.Machine
end

