-- ==== Sys2Proof/Machine/Clock.lean ====
section
/-! DEFINITION. The gates, the clock line and the counter executed as instructions (spec/43_clock_divider.md R119 to
R124). -/

namespace Sys2Proof.Machine

/-- GATE50: a predicate; the registers stay (R119; log entry 6). -/
def execGate50 (s : State) : Host.Outcome State Fault Refusal :=
  .next (s.answer (.bit (gate50Bit s.tick)))

/-- GATE2: a predicate; the registers stay (R120; log entry 6). -/
def execGate2 (s : State) : Host.Outcome State Fault Refusal :=
  .next (s.answer (.bit (gate2Bit s.tick)))

/-- CLKUPD (R122). -/
def execClkupd (s : State) : Host.Outcome State Fault Refusal :=
  .next s.clkUpd

/-- TICKINC (R124). -/
def execTickinc (s : State) : Host.Outcome State Fault Refusal :=
  .next s.tickInc

end Sys2Proof.Machine
end

