-- ==== Sys2Proof/Machine/FrameUnit.lean ====
section
/-! DEFINITION. The frame shift register's functions executed as instructions (spec/41_frame.md R92 to R95). -/

namespace Sys2Proof.Machine

/-- FRLOAD (R92). -/
def execFrload (s : State) : Host.Outcome State Fault Refusal :=
  .next s.loadFrame

/-- FREMIT (R93). -/
def execFremit (s : State) : Host.Outcome State Fault Refusal :=
  .next s.emit

/-- FRSHIFT (R94). -/
def execFrshift (s : State) : Host.Outcome State Fault Refusal :=
  .next s.shiftFrame

/-- FRZERO: a predicate; the registers stay (R95; log entry 6). -/
def execFrzero (s : State) : Host.Outcome State Fault Refusal :=
  .next (s.answer (.bit (frameIsZero s.frame)))

end Sys2Proof.Machine
end

