-- ==== Sys2Proof/Machine/Link.lean ====
section
/-! DEFINITION. The nine tick operations of the Link Protocol State Machine (spec/42_link_fsm.md R103 to R112). Each is
the STATE LOGIC of a tick, step (a) of spec/43_clock_divider.md R126; the clock and the counter follow in `tickStep`. -/

namespace Sys2Proof.Machine

/-- IDLE_WAIT: `DIR <- 1` (R103). -/
def execIdleWait (s : State) : Host.Outcome State Fault Refusal :=
  .next (s.setDir true)

/-- IDLE_SAMPLE: `DIR <- 1`, then `Acquire()`, which raises `sample_req`; if it answers, the rest of R104, and the
request drops; if it never answers, the operation stands there, the request up and nothing else changed (20_memory.md
R46, R52, 60_exceptions.md R136; log entries 2 and 18). -/
def execIdleSample (s : State) : Host.Outcome State Fault Refusal :=
  .next (if s.rawValid then s.requestSample.acceptSample s.rawIn else s.requestSample)

/-- TX_HOLD: no state change (R106). -/
def execTxHold (s : State) : Host.Outcome State Fault Refusal :=
  .next s

/-- TX_HOLD_END: `STATE <- ACKNOWLEDGE` (R109). -/
def execTxHoldEnd (s : State) : Host.Outcome State Fault Refusal :=
  .next (s.setPhase .acknowledge)

/-- TX_SHIFT: FREMIT, then FRSHIFT (R107). -/
def execTxShift (s : State) : Host.Outcome State Fault Refusal :=
  .next s.emit.shiftFrame

/-- TX_SHIFT_END: FREMIT, FRSHIFT, `STATE <- ACKNOWLEDGE` (R108). -/
def execTxShiftEnd (s : State) : Host.Outcome State Fault Refusal :=
  .next (s.emit.shiftFrame.setPhase .acknowledge)

/-- ACK_WAIT: `DIR <- 0`; the line was read low, the state stays (R110). -/
def execAckWait (s : State) : Host.Outcome State Fault Refusal :=
  .next (s.setDir false)

/-- ACK_DONE: `DIR <- 0`; the line was read high, `STATE <- IDLE` (R111). -/
def execAckDone (s : State) : Host.Outcome State Fault Refusal :=
  .next ((s.setDir false).setPhase .idle)

/-- FATAL: `raise Fatal(STATE_CORRUPT)` (R112, 60_exceptions.md R133). -/
def execFatal (s : State) : Host.Outcome State Fault Refusal :=
  .next (raiseFatal .stateCorrupt s)

end Sys2Proof.Machine
end

