-- ==== Sys2Proof/Machine/Mapper.lean ====
section
/-! DEFINITION. The Signal Mapper's functions executed as instructions (spec/40_signal_mapper.md R79 to R84). They are
pure: the registers stay, the value is left in `fnOut` (log entry 6). -/

namespace Sys2Proof.Machine

/-- RAWCAT (R80). -/
def execRawcat (lo hi : Byte) (s : State) : Host.Outcome State Fault Refusal :=
  .next (s.answer (.sample (rawcatValue lo hi)))

/-- TOVOLT (R81). -/
def execTovolt (raw : Sample) (s : State) : Host.Outcome State Fault Refusal :=
  .next (s.answer (.volts (toVolt raw.toInt)))

/-- TOANGLE (R82, R84). -/
def execToangle (v : Rat) (s : State) : Host.Outcome State Fault Refusal :=
  .next (s.answer (.angle (toAngle v)))

/-- V2A (R83). -/
def execV2a (raw : Sample) (s : State) : Host.Outcome State Fault Refusal :=
  .next (s.answer (.angle (v2aAngle raw.toInt)))

end Sys2Proof.Machine
end

