-- ==== Sys2Proof/Machine/Dispatch.lean ====
section
/-! DEFINITION. One arm per operation of spec/opcode_table.json. -/

namespace Sys2Proof.Machine

def exec (i : Instr) (s : State) : Host.Outcome State Fault Refusal :=
  match i with
  | .idleWait => Sys2Proof.Machine.execIdleWait s
  | .idleSample => Sys2Proof.Machine.execIdleSample s
  | .txHold => Sys2Proof.Machine.execTxHold s
  | .txHoldEnd => Sys2Proof.Machine.execTxHoldEnd s
  | .txShift => Sys2Proof.Machine.execTxShift s
  | .txShiftEnd => Sys2Proof.Machine.execTxShiftEnd s
  | .ackWait => Sys2Proof.Machine.execAckWait s
  | .ackDone => Sys2Proof.Machine.execAckDone s
  | .fatal => Sys2Proof.Machine.execFatal s
  | .rawcat lo hi => Sys2Proof.Machine.execRawcat lo hi s
  | .tovolt raw => Sys2Proof.Machine.execTovolt raw s
  | .toangle v => Sys2Proof.Machine.execToangle v s
  | .v2a raw => Sys2Proof.Machine.execV2a raw s
  | .frload => Sys2Proof.Machine.execFrload s
  | .fremit => Sys2Proof.Machine.execFremit s
  | .frshift => Sys2Proof.Machine.execFrshift s
  | .frzero => Sys2Proof.Machine.execFrzero s
  | .gate50 => Sys2Proof.Machine.execGate50 s
  | .gate2 => Sys2Proof.Machine.execGate2 s
  | .clkupd => Sys2Proof.Machine.execClkupd s
  | .tickinc => Sys2Proof.Machine.execTickinc s

end Sys2Proof.Machine
end

