-- ==== Sys2Proof/Machine/Tick.lean ====
section
/-! DEFINITION. TICKSTEP, the whole tick (spec/43_clock_divider.md R126), its intermediate states (spec/20_memory.md R57)
and the placing of a selector value for the next tick. -/

namespace Sys2Proof.Machine

/-- The operation the coming tick selects (30_encoding.md R69). -/
def State.op (s : State) : Instr :=
  decodeSel s.selector

/-- Does a tick that performs `i` in `s` complete: not when it raises Fatal (R133), not when its `Acquire()` never
returns (R136, R46). The wait for the sample is part of the state logic, so it stands before CLKUPD (R126, R136): while
it lasts the clock keeps the level of the tick before, which after an odd tick is high. 70_reset_and_hazards.md R159
speaks of the low phase after the sampling tick as the one stretched; DEDUCED, the model follows R126 (log entry 16). -/
def tickCompletes (i : Instr) (s : State) : Bool :=
  match i with
  | .fatal => false
  | .idleSample => s.rawValid
  | _ => true

/-- After step (a), the state logic of the selected operation, before the clock and the counter (R57). For a state with
`rst` low and `FAULT` 0. -/
def State.afterLogic (s : State) : Host.Outcome State Fault Refusal :=
  exec s.op s

/-- After step (b): the clock is written, the counter is not yet advanced (R57). -/
def State.afterClock (s : State) : Host.Outcome State Fault Refusal :=
  match s.afterLogic with
  | .next t => .next (if tickCompletes s.op s then t.clkUpd else t)
  | .fault r => .fault r
  | .refused r => .refused r

/-- The states a tick passes through, in order: in a sampling tick the one with the request up (20_memory.md R52), then
after the state logic, and in a completed tick after the clock and after the counter (R57). None where no tick is
performed: under reset (R149), halted (R133), stuck (R136). -/
def State.tickStates (s : State) : List State :=
  if s.rst || s.fault || s.sampleReq then []
  else
    (if s.op = .idleSample then [s.requestSample] else []) ++
      match s.afterLogic with
      | .next t => if tickCompletes s.op s then [t, t.clkUpd, t.finishTick] else [t]
      | .fault _ => []
      | .refused _ => []

/-- One step: reset while `rst` is asserted (R149); no change while halted (R133); no enabled step while the tick in
progress is stuck, which a raised `sample_req` shows (R136; log entry 2); otherwise one whole tick (R126). After each the
environment chooses the next inputs (log entry 3). A stuck block decodes nothing, so flags forced to 11 during the wait
raise nothing: DEDUCED from R131, which tests them at a tick's start only (log entry 17). -/
def tickStep (s : State) : Host.Outcome State Fault Refusal :=
  if s.rst then .next s.applyReset.redraw
  else if s.fault then .next s.redraw
  else if s.sampleReq then .fault .stuckInAcquisition
  else
    match s.afterLogic with
    | .next t => .next (if tickCompletes s.op s then t.finishTick else t).redraw
    | .fault r => .fault r
    | .refused r => .refused r

/-- The gates a placed tick has for a selector word: as the word says, but for the sixteen words with G50 = 1 and
G2 = 0, which no counter gives (30_encoding.md R72): there the gate that the word's row reads is kept, G50 in IDLE and
G2 elsewhere. -/
def gatesFor (w : Sel) : Bool × Bool :=
  let g50 := w.getLsbD 3 && (w.getLsbD 2 || (!w.getLsbD 5 && !w.getLsbD 4))
  (g50, g50 || w.getLsbD 2)

/-- A counter value with given gates, the old one if it has them. -/
def tickWithGates (old : Nat) (g50 g2 : Bool) : Nat :=
  if gate50Bit old == g50 && gate2Bit old == g2 then old
  else if g50 then 0
  else if g2 then 2
  else 1

/-- A frame with a given zero condition at a counter value (R96). -/
def frameWithZn (tick : Nat) (old : Frame) (zn : Bool) : Frame :=
  if znBit tick old == zn then old
  else if zn then 0
  else BitVec.allOnes _

/-- The state changed so that its next tick has the selector value `w` (its gates by `gatesFor`): flags, counter, frame and
line level, `rst` low, not halted, not stuck, and an answered sample for a sampling tick. What already fits stays. -/
def State.placeSelector (s : State) (w : Sel) : State :=
  let tick := tickWithGates s.tick (gatesFor w).1 (gatesFor w).2
  { s with
    rst := false
    fault := false
    sampleReq := false
    ackf := w.getLsbD 5
    txf := w.getLsbD 4
    tick := tick
    frame := frameWithZn tick s.frame (w.getLsbD 1)
    dataIn := w.getLsbD 0
    rawValid := decide (decodeSel w = .idleSample) || s.rawValid }

/-- The same for a table word; a word the decoder refuses changes nothing. -/
def State.placeTableWord (s : State) (nbits w : Nat) : State :=
  match decodeTableWord nbits w with
  | some _ => s.placeSelector (BitVec.ofNat _ w)
  | none => s

end Sys2Proof.Machine
end

