-- ==== Sys2Proof/Machine/Ports.lean ====
section
/-! DEFINITION. The output ports (spec/10_state.md R28) and the level of the data line (R29). -/

namespace Sys2Proof.Machine

/-- The levels of the output ports (R28). -/
structure Outputs where
  clkOut : Bool
  dataOut : Bool
  dataOe : Bool
  faultOut : Bool
  sampleReq : Bool
  dbgTxf : Bool
  dbgAckf : Bool
  dbgFrame : Frame
  dbgTick : Nat
  dbgRaw : Sample
  dbgAngle : Byte
  dbgDoutHigh : BitVec 7
  deriving DecidableEq, Repr

/-- The ports as readings of the registers (R28). -/
def State.outputs (s : State) : Outputs where
  clkOut := s.clk
  dataOut := s.dout.getLsbD 0
  dataOe := s.dir
  faultOut := s.fault
  sampleReq := s.sampleReq
  dbgTxf := s.txf
  dbgAckf := s.ackf
  dbgFrame := s.frame
  dbgTick := s.tick
  dbgRaw := s.raw
  dbgAngle := s.angle
  dbgDoutHigh := s.dout.extractLsb' 1 7

/-- The levels of the ports during a tick, in order: where the pulse of `sample_req` in a sampling tick shows, which ends
inside the tick when its sample comes (R28, 20_memory.md R52; log entry 18). -/
def State.portTrace (s : State) : List Outputs :=
  s.tickStates.map State.outputs

/-- The level of the data line as the peer sees it: `DOUT[0]` while the block drives, else what the peer or the board
puts on it (R29). -/
def lineLevel (s : State) (outside : Bool) : Bool :=
  if s.dir then s.dout.getLsbD 0 else outside

end Sys2Proof.Machine
end

