-- ==== Sys2Proof/Machine/TickStep.lean ====
section
/-! DEFINITION. TICKSTEP as spec/43_clock_divider.md R126 writes it: a function of the parameters, the inputs and the
block's registers alone, none of which stores another (spec/00_scope.md R8, R10, spec/10_state.md R31). The machine's
step goes by the selector, the decoder and `exec` instead; that both are one function is a statement for the provers. -/

namespace Sys2Proof.Machine

/-- The four outcomes of a tick (R126). -/
inductive TickOutcome where
  /-- The tick completed. -/
  | ok
  /-- No tick: the block is halted (60_exceptions.md R133). -/
  | halted
  /-- The tick raised Fatal (R133). -/
  | faulted
  /-- The tick does not end: `Acquire()` never returns (R136). -/
  | stuck
  deriving DecidableEq, Repr

/-- How a tick comes out, and the registers then. -/
structure TickResult where
  outcome : TickOutcome
  block : Registers
  deriving DecidableEq, Repr

/-- CLKUPD and TICKINC, then OK (R126). -/
def Registers.completed (b : Registers) (p : Params) : TickResult :=
  ⟨.ok, b.finishTick p.tickWidth⟩

/-- TICKSTEP (R126), for a block whose last tick has ended. -/
def tickBlock (p : Params) (i : Inputs) (b : Registers) : TickResult :=
  if b.fault then ⟨.halted, b⟩
  else
    match b.phase with
    | none => ⟨.faulted, b.raiseFatal .stateCorrupt⟩
    | some .idle =>
      if gate50Bit b.tick then
        if i.rawValid then (b.requestSample.acceptSample i.rawIn).completed p else ⟨.stuck, b.requestSample⟩
      else (b.setDir true).completed p
    | some .transmit =>
      let c := if gate2Bit b.tick then b.emit.shiftFrame else b
      (if frameIsZero c.frame then c.setPhase .acknowledge else c).completed p
    | some .acknowledge =>
      let c := b.setDir false
      (if i.dataIn then c.setPhase .idle else c).completed p

end Sys2Proof.Machine
end

