-- ==== Sys2Proof/Safety.lean ====
section
/-! DEFINITION. The terms claims use: the invariants of spec/10_state.md R34, a tick and its conditions, runs of ticks
under given inputs, and what a transmission puts on the line. -/

namespace Sys2Proof.Machine

/-- The flags are not both set (10_state.md R16, R34 item 1). -/
abbrev State.FlagsLegal (s : State) : Prop :=
  ¬(s.txf = true ∧ s.ackf = true)

/-- The frame is nonzero exactly in TRANSMIT (R34 items 2 and 3). -/
abbrev State.FrameFollowsPhase (s : State) : Prop :=
  s.frame ≠ 0 ↔ s.txf = true

/-- The clock holds the parity of the previous tick; before the first completed tick it is 0 (R34 item 4). -/
abbrev State.ClockFollowsTick (s : State) : Prop :=
  s.clk = decide (s.tick % 2 = 0)
    ∨ (s.clk = false ∧ s.tick = s.params.tick0 ∧ s.txf = false ∧ s.ackf = false)

/-- The angle is in 0..150 (R34 item 5). -/
abbrev State.AngleInRange (s : State) : Prop :=
  s.angle.toNat ≤ 150

/-- The counter is a W-bit number for an admitted W (10_state.md R20, 00_scope.md R8). -/
abbrev State.CounterInRange (s : State) : Prop :=
  s.params.wellFormed = true ∧ s.tick < 2 ^ s.params.tickWidth

/-- Outside TRANSMIT the retained byte is the reset value or the last byte of a transmission, so its level is 0
(10_state.md R30, 41_frame.md R98). -/
abbrev State.RetainedLevelLow (s : State) : Prop :=
  s.txf = false → s.dout = 0x00 ∨ s.dout = 0xFE

/-- In TRANSMIT the block drives the line (42_link_fsm.md R106, R115). -/
abbrev State.DrivesInTransmit (s : State) : Prop :=
  s.txf = true → s.dir = true

/-- `sample_req` stands between steps only inside a sampling tick that does not end (20_memory.md R52, 60_exceptions.md
R136). -/
abbrev State.RequestInSampling (s : State) : Prop :=
  s.sampleReq = true → s.dir = true ∧ s.txf = false ∧ s.ackf = false ∧ s.tick % 50 = 0

/-- The invariants of R34 (items 1 to 6) with those they rest on. -/
abbrev State.Inv (s : State) : Prop :=
  s.FlagsLegal ∧ s.FrameFollowsPhase ∧ s.ClockFollowsTick ∧ s.AngleInRange ∧ s.fault = false ∧ s.CounterInRange
    ∧ s.RetainedLevelLow ∧ s.DrivesInTransmit ∧ s.RequestInSampling

/-- The block can begin a tick: it is not halted (60_exceptions.md R133) and not stuck in one (R136). -/
abbrev State.Ready (s : State) : Prop :=
  s.fault = false ∧ s.sampleReq = false

/-- The coming step is a tick: no reset (70_reset_and_hazards.md R149), and a block that can begin one. -/
abbrev State.Running (s : State) : Prop :=
  s.rst = false ∧ s.Ready

/-- The state is IDLE, TRANSMIT or ACKNOWLEDGE (10_state.md R17). -/
abbrev State.InIdle (s : State) : Prop :=
  s.ackf = false ∧ s.txf = false
abbrev State.InTransmit (s : State) : Prop :=
  s.ackf = false ∧ s.txf = true
abbrev State.InAcknowledge (s : State) : Prop :=
  s.ackf = true ∧ s.txf = false

/-- The coming step is a tick that completes: no fatal condition, and an answer of `Acquire()` if the tick asks
(43_clock_divider.md R126). -/
abbrev State.Completes (s : State) : Prop :=
  s.Running ∧ s.FlagsLegal ∧ (s.InIdle → s.tick % 50 = 0 → s.rawValid = true)

/-- `t` is `s` after a completed tick whose state logic left the registers `r`: the clock has the parity of the counter,
the counter has advanced (R122, R124, R126), and nothing else of the model has changed but the inputs. -/
abbrev AfterTick (s t : State) (r : Registers) : Prop :=
  t.regs = { r with clk := decide (s.tick % 2 = 1), tick := (s.tick + 1) % 2 ^ s.params.tickWidth }
    ∧ t.params = s.params ∧ t.fnOut = s.fnOut

/-- `t` is `s` after a step that completed no tick and left the registers `r`. -/
abbrev AfterNoTick (s t : State) (r : Registers) : Prop :=
  t.regs = r ∧ t.params = s.params ∧ t.fnOut = s.fnOut

/-- One step after another, each under the inputs the list gives it. -/
def runTicks : List Inputs → State → Host.Outcome State Fault Refusal
  | [], s => .next s
  | i :: is, s =>
    match step (s.withInputs i) with
    | .next t => runTicks is t
    | .fault r => .fault r
    | .refused r => .refused r

/-- `rst` stays released throughout. -/
abbrev NoReset (is : List Inputs) : Prop :=
  ∀ i ∈ is, i.rst = false

/-- Does the coming step put a level on the line: it invokes FREMIT (20_memory.md R53). -/
def State.emits (s : State) : Bool :=
  !s.rst && !s.fault && !s.sampleReq && (decide (s.op = .txShift) || decide (s.op = .txShiftEnd))

/-- The levels put on the line in a run, one per emitting tick, in order (30_encoding.md R64). -/
def levelsOf : List Inputs → State → List Bool
  | [], _ => []
  | i :: is, s =>
    match step (s.withInputs i) with
    | .next t => if (s.withInputs i).emits then t.dout.getLsbD 0 :: levelsOf is t else levelsOf is t
    | .fault _ => []
    | .refused _ => []

/-- The bit length of a frame: the position of its highest set bit, plus one; 0 for the zero frame (41_frame.md R97). -/
def frameLength (f : Frame) : Nat :=
  if f = 0 then 0 else f.toNat.log2 + 1

/-- The slots of an angle: the framing level 0, then the angle's bits from bit 0 up, as many as the frame has bits
(30_encoding.md R64, 41_frame.md R97). -/
def slotLevels (a : Byte) (length : Nat) : List Bool :=
  (List.range length).map fun k => if k = 0 then false else a.getLsbD (k - 1)

/-- What a receiver makes of levels: slot k+1 is bit k of the angle, a missing slot is a 1 (41_frame.md R99). -/
def decodeLevels (levels : List Bool) : Nat :=
  ((List.range 8).map fun k => if levels.getD (k + 1) true then 2 ^ k else 0).sum

end Sys2Proof.Machine
end

