-- ==== Sys2Proof/Certificates/Slice0/Obligations.lean ====
section
/-! DEFINITION. The statements for the provers. A tick operation's statement has three parts: its effect as an instruction
(its state logic), the selector words that select it, and the whole tick that performs it. `AfterTick` and `AfterNoTick`
(Sys2Proof/Safety.lean) give ALL registers after the step, so each such part is also the operation's frame. -/

open Sys2Proof Sys2Proof.Machine

/-! ## The nine tick operations -/

/-- 42_link_fsm.md R103. -/
def Obligations.IdleWaitTakesTheLine : Prop :=
  (∀ s : State, exec .idleWait s = .next { s with dir := true }) ∧
  (∀ w : Sel, decodeSel w = .idleWait ↔ w &&& 0x38 = 0x00) ∧
  (∀ s : State, s.Running → s.InIdle → s.tick % 50 ≠ 0 →
    s.op = .idleWait ∧ (∀ b : Bool, step { s with dataIn := b } = step s) ∧
    ∃ t, step s = .next t ∧ AfterTick s t { s.regs with dir := true })

/-- R104, once `Acquire()` has answered. The angle is V2A's (40_signal_mapper.md R83), the frame FRLOAD's (41_frame.md
R92), both written as the spec's arithmetic. -/
def Obligations.IdleSampleLoadsTheFrame : Prop :=
  (∀ (s : State) (a : Byte), s.rawValid = true →
    a = BitVec.ofInt 8 ((2457600 - 75 * s.rawIn.toInt) / 32768) →
    exec .idleSample s = .next { s with
      dir := true, raw := s.rawIn, angle := a, frame := BitVec.ofNat 9 (511 - 2 * a.toNat),
      txf := true, ackf := false, sampleReq := false }) ∧
  (∀ w : Sel, decodeSel w = .idleSample ↔ w &&& 0x38 = 0x08) ∧
  (∀ (s : State) (a : Byte), s.Running → s.InIdle → s.tick % 50 = 0 → s.rawValid = true →
    a = BitVec.ofInt 8 ((2457600 - 75 * s.rawIn.toInt) / 32768) →
    s.op = .idleSample ∧ (∀ b : Bool, step { s with dataIn := b } = step s) ∧ a.toNat ≤ 150 ∧
    ∃ t, step s = .next t ∧ AfterTick s t { s.regs with
      dir := true, raw := s.rawIn, angle := a, frame := BitVec.ofNat 9 (511 - 2 * a.toNat),
      txf := true, sampleReq := false })

/-- 20_memory.md R52, 10_state.md R28: the request is raised after `DIR <- 1`, stands until the sample is in, and is down
in every other tick. Without an answer the operation stands there (60_exceptions.md R136). Where in the tick the pulse
lies is the model's reading (log entry 18). -/
def Obligations.SampleRequestStandsUntilTheSampleIsIn : Prop :=
  (∀ s : State, s.rawValid = false → exec .idleSample s = .next { s with dir := true, sampleReq := true }) ∧
  (∀ s : State, s.Running → s.InIdle → s.tick % 50 = 0 → s.rawValid = false →
    s.portTrace.map (fun o => o.sampleReq) = [true, true] ∧
    ∃ t, step s = .next t ∧ AfterNoTick s t { s.regs with dir := true, sampleReq := true }) ∧
  (∀ s : State, s.Running → s.InIdle → s.tick % 50 = 0 → s.rawValid = true →
    s.portTrace.map (fun o => o.sampleReq) = [true, false, false, false] ∧ ∀ o ∈ s.portTrace, o.dataOe = true) ∧
  (∀ s : State, s.op ≠ .idleSample → ∀ o ∈ s.portTrace, o.sampleReq = false)

/-- R106. -/
def Obligations.TxHoldChangesNothing : Prop :=
  (∀ s : State, exec .txHold s = .next s) ∧
  (∀ w : Sel, decodeSel w = .txHold ↔ w &&& 0x36 = 0x10) ∧
  (∀ s : State, s.Running → s.InTransmit → s.tick % 2 = 1 → s.frame ≠ 0 →
    s.op = .txHold ∧ (∀ b : Bool, step { s with dataIn := b } = step s) ∧
    ∃ t, step s = .next t ∧ AfterTick s t s.regs)

/-- R107. -/
def Obligations.TxShiftEmitsThenShifts : Prop :=
  (∀ s : State, exec .txShift s = .next { s with
    dout := BitVec.ofNat 8 (255 - s.frame.toNat % 256), frame := BitVec.ofNat 9 (s.frame.toNat / 2) }) ∧
  (∀ w : Sel, decodeSel w = .txShift ↔ w &&& 0x36 = 0x14) ∧
  (∀ s : State, s.Running → s.InTransmit → s.tick % 2 = 0 → s.frame.toNat / 2 ≠ 0 →
    s.op = .txShift ∧ (∀ b : Bool, step { s with dataIn := b } = step s) ∧
    ∃ t, step s = .next t ∧ t.dout.getLsbD 0 = !s.frame.getLsbD 0 ∧ AfterTick s t { s.regs with
      dout := BitVec.ofNat 8 (255 - s.frame.toNat % 256), frame := BitVec.ofNat 9 (s.frame.toNat / 2) })

/-- R108, the forced state with a zero frame on an even tick included. -/
def Obligations.TxShiftEndEntersAcknowledge : Prop :=
  (∀ s : State, exec .txShiftEnd s = .next { s with
    dout := BitVec.ofNat 8 (255 - s.frame.toNat % 256), frame := BitVec.ofNat 9 (s.frame.toNat / 2),
    txf := false, ackf := true }) ∧
  (∀ w : Sel, decodeSel w = .txShiftEnd ↔ w &&& 0x36 = 0x16) ∧
  (∀ s : State, s.Running → s.InTransmit → s.tick % 2 = 0 → s.frame.toNat / 2 = 0 →
    s.op = .txShiftEnd ∧ (∀ b : Bool, step { s with dataIn := b } = step s) ∧
    ∃ t, step s = .next t ∧ AfterTick s t { s.regs with
      dout := if s.frame = 1 then 0xFE else 0xFF, frame := 0, txf := false, ackf := true })

/-- R109. -/
def Obligations.TxHoldEndEntersAcknowledge : Prop :=
  (∀ s : State, exec .txHoldEnd s = .next { s with txf := false, ackf := true }) ∧
  (∀ w : Sel, decodeSel w = .txHoldEnd ↔ w &&& 0x36 = 0x12) ∧
  (∀ s : State, s.Running → s.InTransmit → s.tick % 2 = 1 → s.frame = 0 →
    s.op = .txHoldEnd ∧ (∀ b : Bool, step { s with dataIn := b } = step s) ∧
    ∃ t, step s = .next t ∧ AfterTick s t { s.regs with txf := false, ackf := true })

/-- R110. -/
def Obligations.AckWaitReleasesTheLine : Prop :=
  (∀ s : State, exec .ackWait s = .next { s with dir := false }) ∧
  (∀ w : Sel, decodeSel w = .ackWait ↔ w &&& 0x31 = 0x20) ∧
  (∀ s : State, s.Running → s.InAcknowledge → s.dataIn = false →
    s.op = .ackWait ∧ ∃ t, step s = .next t ∧ AfterTick s t { s.regs with dir := false })

/-- R111. -/
def Obligations.AckDoneReturnsToIdle : Prop :=
  (∀ s : State, exec .ackDone s = .next { s with dir := false, txf := false, ackf := false }) ∧
  (∀ w : Sel, decodeSel w = .ackDone ↔ w &&& 0x31 = 0x21) ∧
  (∀ s : State, s.Running → s.InAcknowledge → s.dataIn = true →
    s.op = .ackDone ∧ ∃ t, step s = .next t ∧ AfterTick s t { s.regs with dir := false, ackf := false })

/-- R112: the operation, the faulting tick, and the ticks after it. -/
def Obligations.FatalSetsFaultAndHalts : Prop :=
  (∀ s : State, exec .fatal s = .next { s with fault := true }) ∧
  (∀ w : Sel, decodeSel w = .fatal ↔ w &&& 0x30 = 0x30) ∧
  (∀ s : State, s.Running → s.ackf = true → s.txf = true →
    s.op = .fatal ∧ (∀ b : Bool, step { s with dataIn := b } = step s) ∧
    ∃ t, step s = .next t ∧ AfterNoTick s t { s.regs with fault := true } ∧
      ∀ is : List Inputs, NoReset is → ∃ u, runTicks is t = .next u ∧ u.regs = t.regs)

/-! ## The twelve datapath functions -/

/-- 40_signal_mapper.md R80. The answer stands in the model's own field `fnOut` (log entry 6). -/
def Obligations.RawcatReadsTheBytesAsASignedNumber : Prop :=
  ∀ (lo hi : Byte) (s : State), exec (.rawcat lo hi) s = .next { s with
    fnOut := .sample (if lo.toNat + hi.toNat * 256 < 32768 then (lo.toNat + hi.toNat * 256 : Nat)
      else ((lo.toNat + hi.toNat * 256 : Nat) : Int) - 65536) }

/-- R81, the exact value; the answer stands in the model's own field `fnOut` (log entry 6). -/
def Obligations.TovoltDividesExactly : Prop :=
  ∀ (raw : Sample) (s : State),
    exec (.tovolt raw) s = .next { s with fnOut := .volts (5 * (raw.toInt : Rat) / 32768) } ∧
    (-5 : Rat) ≤ 5 * (raw.toInt : Rat) / 32768 ∧ 5 * (raw.toInt : Rat) / 32768 < 5

/-- R82, on the voltages for which the spec gives the byte. There the integer is not negative, so truncation toward zero
is the floor (00_scope.md R9). The answer stands in the model's own field `fnOut` (log entry 6). -/
def Obligations.ToangleTruncatesTowardZero : Prop :=
  ∀ (v : Rat) (s : State), -5 ≤ v → v ≤ 5 →
    exec (.toangle v) s = .next { s with fnOut := .angle (BitVec.ofInt 8 ⌊150 - (v + 5) * 15⌋) } ∧
    0 ≤ ⌊150 - (v + 5) * 15⌋ ∧ ⌊150 - (v + 5) * 15⌋ ≤ 150

/-- MODEL's choice (log entry 7): outside that range the byte is unspecified (R84, 93_implementation_defined.md U3) and
the operation still runs, with some byte. -/
def Obligations.ToangleOutsideTheRangeStillAnswers : Prop :=
  ∀ (v : Rat) (s : State), v < -5 ∨ 5 < v →
    ∃ a : Byte, exec (.toangle v) s = .next { s with fnOut := .angle a }

/-- R83; the answer stands in the model's own field `fnOut` (log entry 6). -/
def Obligations.V2aIsFloorDivision : Prop :=
  ∀ (raw : Sample) (s : State),
    exec (.v2a raw) s = .next { s with fnOut := .angle (BitVec.ofInt 8 ((2457600 - 75 * raw.toInt) / 32768)) } ∧
    75 ≤ 2457600 - 75 * raw.toInt ∧ 2457600 - 75 * raw.toInt ≤ 4915200 ∧
    ((BitVec.ofInt 8 ((2457600 - 75 * raw.toInt) / 32768)).toNat : Int) = (2457600 - 75 * raw.toInt) / 32768

/-- 41_frame.md R92. -/
def Obligations.FrloadComplementsTheAngle : Prop :=
  ∀ s : State, ∃ t, exec .frload s = .next t ∧ t = { s with frame := BitVec.ofNat 9 (511 - 2 * s.angle.toNat) } ∧
    t.frame.getLsbD 0 = true ∧ t.frame ≠ 0 ∧ ∀ k < 8, t.frame.getLsbD (k + 1) = !s.angle.getLsbD k

/-- R93. -/
def Obligations.FremitComplementsTheLowByte : Prop :=
  ∀ s : State, ∃ t, exec .fremit s = .next t ∧
    t = { s with dout := BitVec.ofNat 8 (255 - s.frame.toNat % 256) } ∧
    t.dout.getLsbD 0 = !s.frame.getLsbD 0

/-- R94. -/
def Obligations.FrshiftHalvesTheFrame : Prop :=
  ∀ s : State, ∃ t, exec .frshift s = .next t ∧ t = { s with frame := BitVec.ofNat 9 (s.frame.toNat / 2) } ∧
    t.frame.getLsbD 8 = false ∧ ∀ k < 8, t.frame.getLsbD k = s.frame.getLsbD (k + 1)

/-- R95; the answer stands in the model's own field `fnOut` (log entry 6). -/
def Obligations.FrzeroTestsAllNineBits : Prop :=
  ∀ s : State, exec .frzero s = .next { s with fnOut := .bit (decide (s.frame.toNat = 0)) }

/-- 43_clock_divider.md R119; the answer stands in the model's own field `fnOut` (log entry 6). -/
def Obligations.Gate50TestsTheCounter : Prop :=
  ∀ s : State, exec .gate50 s = .next { s with fnOut := .bit (decide (50 ∣ s.tick)) }

/-- R120; the answer stands in the model's own field `fnOut` (log entry 6). -/
def Obligations.Gate2TestsTheParity : Prop :=
  ∀ s : State, exec .gate2 s = .next { s with fnOut := .bit (decide (2 ∣ s.tick)) }

/-- R122: the function, and when a tick runs it: in every completed tick, in no other. -/
def Obligations.ClkupdWritesTheParity : Prop :=
  (∀ s : State, exec .clkupd s = .next { s with clk := decide (s.tick % 2 = 1) }) ∧
  (∀ s t : State, s.rst = false → step s = .next t →
    (s.Completes → t.clk = decide (s.tick % 2 = 1)) ∧ (¬s.Completes → t.clk = s.clk))

/-- R124, for every width W; on a W-bit counter the value after `2^W - 1` is 0 and every other value goes up by one. It
runs in every completed tick and in no other. -/
def Obligations.TickincWrapsSilently : Prop :=
  (∀ s : State, exec .tickinc s = .next { s with tick := (s.tick + 1) % 2 ^ s.params.tickWidth }) ∧
  (∀ s t : State, s.tick < 2 ^ s.params.tickWidth → exec .tickinc s = .next t →
    t.tick < 2 ^ s.params.tickWidth ∧
    (s.tick + 1 = 2 ^ s.params.tickWidth → t.tick = 0) ∧
    (s.tick + 1 ≠ 2 ^ s.params.tickWidth → t.tick = s.tick + 1)) ∧
  (∀ s t : State, s.rst = false → step s = .next t →
    (s.Completes → t.tick = (s.tick + 1) % 2 ^ s.params.tickWidth) ∧ (¬s.Completes → t.tick = s.tick))

/-! ## Decoding, encoding and the step -/

/-- 30_encoding.md R70, row by row; exactly one row of the model's table matches any selector value. -/
def Obligations.OperationMapCoversEverySelector : Prop :=
  ∀ w : Sel,
    (decodeSel w = .idleWait ↔ w &&& 0x38 = 0x00) ∧ (decodeSel w = .idleSample ↔ w &&& 0x38 = 0x08) ∧
    (decodeSel w = .txHold ↔ w &&& 0x36 = 0x10) ∧ (decodeSel w = .txHoldEnd ↔ w &&& 0x36 = 0x12) ∧
    (decodeSel w = .txShift ↔ w &&& 0x36 = 0x14) ∧ (decodeSel w = .txShiftEnd ↔ w &&& 0x36 = 0x16) ∧
    (decodeSel w = .ackWait ↔ w &&& 0x31 = 0x20) ∧ (decodeSel w = .ackDone ↔ w &&& 0x31 = 0x21) ∧
    (decodeSel w = .fatal ↔ w &&& 0x30 = 0x30) ∧
    (selTable.filter fun r => r.matchesWord w).map (fun r => r.instr) = [decodeSel w]

/-- A few words written out bit by bit from 30_encoding.md R70 (ACKF TXF G50 G2 ZN DIN) decode to the operations they stand
for. MODEL's choice (log entry 8): the byte that carries a word, and the rejection of a high bit and of an empty list. -/
def Obligations.WrittenOutWordsDecode : Prop :=
  decode [0b00000100] = .ok .idleWait [] ∧ decode [0b00001110] = .ok .idleSample [] ∧
  decode [0b00010000] = .ok .txHold [] ∧ decode [0b00010111] = .ok .txShiftEnd [] ∧
  decode [0b00100010] = .ok .ackWait [] ∧ decode [0b00111110] = .ok .fatal [] ∧
  decode [0b01000000] = .rejected .highBits ∧ decode [] = .rejected .noByte

/-- Decode and encode agree for every operation that has a word, with every value of its don't-care bits; and a byte that
decodes is an encoding of what it decodes to (R70, R71; the byte that carries the word is log entry 8). -/
def Obligations.DecodeInvertsEncode : Prop :=
  (∀ (i : Instr) (fill : Sel) (bytes rest : List Byte), i.wellFormed = true → encodeWith fill i = some bytes →
    decode (bytes ++ rest) = .ok i rest) ∧
  (∀ (b : Byte) (rest rest' : List Byte) (i : Instr), decode (b :: rest) = .ok i rest' →
    rest' = rest ∧ ∃ fill : Sel, encodeWith fill i = some [b])

/-- 43_clock_divider.md R126 through the decoder: the step runs the operation the selector decodes to; a completed tick
then writes the clock and advances the counter, a stuck or faulting one does not. -/
def Obligations.StepRunsTheSelectedOperation : Prop :=
  (∀ s : State, ∃ i, decode [s.selector.setWidth 8] = .ok i []) ∧
  (∀ (s t : State) (i : Instr), s.Running → decode [s.selector.setWidth 8] = .ok i [] → exec i s = .next t →
    ∃ u, step s = .next u ∧ (s.Completes → AfterTick s u t.regs) ∧ (¬s.Completes → AfterNoTick s u t.regs))

/-- MODEL's own function (log entry 8): a placed table word is what the next step runs. -/
def Obligations.PlacedWordIsSelected : Prop :=
  ∀ (s : State) (w : Nat) (i : Instr), w < 64 → decodeTableWord 8 w = some i →
    (s.withFetchWord 8 w).Running ∧ (s.withFetchWord 8 w).op = i ∧
    decode [(s.withFetchWord 8 w).selector.setWidth 8] = .ok i []

/-- 43_clock_divider.md R126: the step through the selector, the decoder and `exec` is TICKSTEP as the spec writes it, a
function of the parameters, the inputs and the block's registers alone (00_scope.md R10), with its four outcomes; and
what a step is outside a tick: reset (70_reset_and_hazards.md R149; a step of its own by log entry 4), and nothing
enabled in a block that is stuck (60_exceptions.md R136; that this is an outcome without a next state is log entry 2). -/
def Obligations.StepIsTheTickStepOfTheSpec : Prop :=
  (∀ s : State, s.rst = false → s.sampleReq = false →
    ∃ t, step s = .next t ∧ t.regs = (tickBlock s.params s.toInputs s.toRegisters).block ∧
      t.params = s.params ∧ t.fnOut = s.fnOut) ∧
  (∀ s : State, s.rst = false → s.sampleReq = false →
    ((tickBlock s.params s.toInputs s.toRegisters).outcome = .halted ↔ s.fault = true) ∧
    ((tickBlock s.params s.toInputs s.toRegisters).outcome = .faulted ↔
      s.fault = false ∧ s.ackf = true ∧ s.txf = true) ∧
    ((tickBlock s.params s.toInputs s.toRegisters).outcome = .stuck ↔
      s.fault = false ∧ s.InIdle ∧ s.tick % 50 = 0 ∧ s.rawValid = false) ∧
    ((tickBlock s.params s.toInputs s.toRegisters).outcome = .ok ↔ s.Completes)) ∧
  (∀ s : State, s.rst = true → ∃ t, step s = .next t ∧ t.regs = Registers.resetWith s.params) ∧
  (∀ s : State, s.rst = false → s.fault = true → ∃ t, step s = .next t ∧ t.regs = s.regs) ∧
  (∀ s : State, s.rst = false → s.fault = false → s.sampleReq = true → step s = .fault .stuckInAcquisition)

/-- 20_memory.md R57: state logic, then clock, then counter, with the states in between. -/
def Obligations.StateLogicPrecedesClockPrecedesCounter : Prop :=
  ∀ s t : State, s.Running → s.afterLogic = .next t →
    t.clk = s.clk ∧ t.tick = s.tick ∧
    (s.Completes → ∃ u v, s.afterClock = .next u ∧ u = { t with clk := decide (s.tick % 2 = 1) } ∧
      step s = .next v ∧ v.regs = { u.regs with tick := (s.tick + 1) % 2 ^ s.params.tickWidth })

/-! ## Reset, the fatal condition and the invariants -/

/-- 10_state.md R33, for every admitted W and TICK0, and the defaults W = 32, TICK0 = 0. -/
def Obligations.ResetHoldsTheStatedValues : Prop :=
  (∀ p : Params, p.wellFormed = true →
    (State.resetWith p).txf = false ∧ (State.resetWith p).ackf = false ∧ (State.resetWith p).frame = 0x000 ∧
    (State.resetWith p).tick = p.tick0 ∧ (State.resetWith p).clk = false ∧ (State.resetWith p).dout = 0x00 ∧
    (State.resetWith p).dir = false ∧ (State.resetWith p).raw = 0x0000 ∧ (State.resetWith p).angle = 0x00 ∧
    (State.resetWith p).fault = false) ∧
  State.reset = State.resetWith ⟨32, 0⟩

/-- 70_reset_and_hazards.md R149, R134: from every state, the halted ones included, a step with `rst` asserted leaves
every register at its reset value and performs no tick (that reset is a step of its own is log entry 4). -/
def Obligations.ResetRestoresEveryRegister : Prop :=
  ∀ s : State, s.rst = true → ∃ t, step s = .next t ∧ t.params = s.params ∧
    t.txf = false ∧ t.ackf = false ∧ t.frame = 0x000 ∧ t.tick = s.params.tick0 % 2 ^ s.params.tickWidth ∧
    t.clk = false ∧ t.dout = 0x00 ∧ t.dir = false ∧ t.raw = 0x0000 ∧ t.angle = 0x00 ∧ t.fault = false

/-- 10_state.md R34 at reset, for every admitted W and TICK0, with the deduced parts of log entry 14. -/
def Obligations.InvariantsHoldAtReset : Prop :=
  (∀ p : Params, p.wellFormed = true → (State.resetWith p).Inv) ∧ State.reset.Inv

/-- 10_state.md R34 items 1 to 6 with those they rest on (log entry 14): every step keeps them, from every
state that has them, whatever the inputs. -/
def Obligations.EveryStepKeepsTheInvariants : Prop :=
  ∀ s t : State, s.Inv → step s = .next t → t.Inv

/-- 60_exceptions.md R133, R134: a halted block keeps every register for any number of ticks without a reset, and puts
nothing on the line. -/
def Obligations.HaltedBlockIsFrozen : Prop :=
  ∀ (s : State) (is : List Inputs), s.fault = true → NoReset is →
    levelsOf is s = [] ∧ ∃ t, runTicks is s = .next t ∧ t.regs = s.regs

/-- 10_state.md R27: after a step `FAULT` is 1 exactly if there was no reset and it was 1 or the tick found both flags
set; while it is 1, a step without reset changes no register. -/
def Obligations.FaultIsSetByFatalAndClearedByReset : Prop :=
  ∀ s t : State, step s = .next t →
    (t.fault = true ↔ s.rst = false ∧ (s.fault = true ∨ (s.ackf = true ∧ s.txf = true))) ∧
    (s.rst = false → s.fault = true → t.regs = s.regs)

/-! ## The state machine -/

/-- 42_link_fsm.md R113: the transition relation, row by row; the tick of the sampling row without an answer
does not end; no edge leaves the halted condition without reset. -/
def Obligations.TransitionRelation : Prop :=
  ∀ s t : State, s.rst = false → step s = .next t →
    (s.fault = false → s.phase = some .idle → s.tick % 50 ≠ 0 → t.phase = some .idle) ∧
    (s.fault = false → s.phase = some .idle → s.tick % 50 = 0 → s.rawValid = true → t.phase = some .transmit) ∧
    (s.fault = false → s.phase = some .idle → s.tick % 50 = 0 → s.rawValid = false →
      t.phase = some .idle ∧ t.tick = s.tick ∧ t.clk = s.clk ∧
        ∀ i : Inputs, i.rst = false → step (t.withInputs i) = .fault .stuckInAcquisition) ∧
    (s.fault = false → s.phase = some .transmit →
      (if s.tick % 2 = 0 then s.frame.toNat / 2 else s.frame.toNat) ≠ 0 → t.phase = some .transmit) ∧
    (s.fault = false → s.phase = some .transmit →
      (if s.tick % 2 = 0 then s.frame.toNat / 2 else s.frame.toNat) = 0 → t.phase = some .acknowledge) ∧
    (s.fault = false → s.phase = some .acknowledge → s.dataIn = false → t.phase = some .acknowledge) ∧
    (s.fault = false → s.phase = some .acknowledge → s.dataIn = true → t.phase = some .idle) ∧
    (s.fault = false → s.phase = none → t.phase = none ∧ t.fault = true) ∧
    (s.fault = true → t.phase = s.phase ∧ t.fault = true)

/-- 10_state.md R14, R15: which operations change which flag. -/
def Obligations.FlagsAreWrittenByTheirOperationsOnly : Prop :=
  ∀ s t : State, s.rst = false → step s = .next t →
    (s.txf = false → t.txf = true → s.op = .idleSample ∧ s.rawValid = true) ∧
    (s.txf = true → t.txf = false → s.op = .txShiftEnd ∨ s.op = .txHoldEnd) ∧
    (s.ackf = false → t.ackf = true → s.op = .txShiftEnd ∨ s.op = .txHoldEnd) ∧
    (s.ackf = true → t.ackf = false → s.op = .ackDone)

/-- 10_state.md R34 item 7, R19: the frame changes only by a load on the way from IDLE to TRANSMIT, or by a shift on an
even tick of TRANSMIT. -/
def Obligations.FrameIsLoadedOnlyOnTheWayToTransmit : Prop :=
  ∀ s t : State, s.rst = false → step s = .next t → t.frame ≠ s.frame →
    (s.phase = some .idle ∧ t.phase = some .transmit ∧ s.tick % 50 = 0 ∧
      t.frame.toNat = 511 - 2 * t.angle.toNat) ∨
    (s.phase = some .transmit ∧ s.tick % 2 = 0 ∧ t.frame.toNat = s.frame.toNat / 2)

/-- 20_memory.md R53: the byte toward the line changes only on even ticks of TRANSMIT. -/
def Obligations.DataLevelChangesOnlyOnEvenTransmitTicks : Prop :=
  ∀ s t : State, s.rst = false → step s = .next t → t.dout ≠ s.dout →
    s.fault = false ∧ s.phase = some .transmit ∧ s.tick % 2 = 0

/-- 10_state.md R22, R23: the two latches change only when a sampling tick completes, and then hold the sample and its
angle. -/
def Obligations.LatchesChangeOnlyWhenSampling : Prop :=
  ∀ s t : State, s.rst = false → step s = .next t → (t.raw ≠ s.raw ∨ t.angle ≠ s.angle) →
    s.Completes ∧ s.op = .idleSample ∧ t.raw = s.rawIn ∧
    (t.angle.toNat : Int) = (2457600 - 75 * s.rawIn.toInt) / 32768

/-- 20_memory.md R55: `DIR <- 1` in every IDLE tick, `DIR <- 0` in every ACKNOWLEDGE tick, no write in TRANSMIT. -/
def Obligations.DirectionFollowsThePhase : Prop :=
  ∀ s t : State, s.Running → step s = .next t →
    (s.InIdle → t.dir = true) ∧ (s.InAcknowledge → t.dir = false) ∧ (s.InTransmit → t.dir = s.dir)

/-- 60_exceptions.md R139: the sample port is read only by a tick that samples, and its pattern only once it is valid;
the line is read only by an ACKNOWLEDGE tick. -/
def Obligations.InputsAreReadOnlyWhenPolled : Prop :=
  (∀ (s : State) (p : Sample) (v : Bool), ¬(s.Running ∧ s.InIdle ∧ s.tick % 50 = 0) →
    step { s with rawIn := p, rawValid := v } = step s) ∧
  (∀ (s : State) (p : Sample), s.rawValid = false → step { s with rawIn := p } = step s) ∧
  (∀ (s : State) (b : Bool), ¬(s.Running ∧ s.InAcknowledge) → step { s with dataIn := b } = step s)

/-- 43_clock_divider.md R121, 30_encoding.md R72: G50 implies G2, so the selector of every state is a reachable one
(the answers of the functions stand in `fnOut`, log entry 6). -/
def Obligations.SamplingGateImpliesBitGate : Prop :=
  ∀ s : State, selReachable s.selector = true ∧
    (exec .gate50 s = .next { s with fnOut := .bit true } → exec .gate2 s = .next { s with fnOut := .bit true })

/-! ## The clock and the counter -/

/-- 43_clock_divider.md R123, R120: a completed tick leaves the parity of its counter value on the clock, and the next
completed tick leaves the other level, across the wrap too. -/
def Obligations.ClockAlternatesAcrossTheWrap : Prop :=
  ∀ s t : State, 1 ≤ s.params.tickWidth → s.Completes → step s = .next t →
    t.clk = decide (s.tick % 2 = 1) ∧
    ∀ (i : Inputs) (u : State), (t.withInputs i).Completes → step (t.withInputs i) = .next u → u.clk = !t.clk

/-- 10_state.md R20: the counter is advanced by one modulo `2^W` by a completed tick and by nothing else but reset. -/
def Obligations.CounterCountsCompletedTicks : Prop :=
  ∀ s t : State, s.rst = false → step s = .next t →
    (s.Completes → t.tick = (s.tick + 1) % 2 ^ s.params.tickWidth) ∧ (¬s.Completes → t.tick = s.tick ∧ t.clk = s.clk)

/-- 43_clock_divider.md R128: between wraps an idle block off a multiple of 50 waits, driving the line, until the next
multiple of 50, and that tick samples. -/
def Obligations.IdleBlockWaitsForTheNextMultiple : Prop :=
  ∀ (s : State) (is : List Inputs), s.Ready → s.InIdle → NoReset is → 0 < s.tick % 50 →
    s.tick % 50 + is.length = 50 → s.tick + is.length < 2 ^ s.params.tickWidth →
    ∃ t, runTicks is s = .next t ∧ t.op = .idleSample ∧
      t.regs = { s.regs with dir := true, clk := true, tick := s.tick + is.length }

/-- 43_clock_divider.md R125: past the last multiple of 50 before the wrap, an idle block samples at count 0, fewer than
50 ticks after it; and the distances of the table. -/
def Obligations.WrapBringsASampleEarly : Prop :=
  (∀ (s : State) (is : List Inputs), s.Ready → s.InIdle → NoReset is → 0 < is.length →
    is.length < 2 ^ s.params.tickWidth % 50 → s.tick + is.length = 2 ^ s.params.tickWidth →
    ∃ t, runTicks is s = .next t ∧ t.op = .idleSample ∧
      t.regs = { s.regs with dir := true, clk := true, tick := 0 }) ∧
  2 ^ 8 % 50 = 6 ∧ 2 ^ 16 % 50 = 36 ∧ 2 ^ 32 % 50 = 46 ∧ 2 ^ 64 % 50 = 16

/-! ## The mapper's laws -/

/-- 40_signal_mapper.md R85: V2A is TOANGLE after TOVOLT, on every sample; the answers stand in the model's own field
`fnOut` (log entry 6). -/
def Obligations.V2aIsToangleAfterTovolt : Prop :=
  ∀ (s : State) (raw : Sample), ∃ (t : State) (v : Rat), exec (.tovolt raw) s = .next t ∧ t.fnOut = .volts v ∧
    exec (.toangle v) t = exec (.v2a raw) t

/-- R86, R87: the angle is in 0..150 and both ends are taken; V2A is non-increasing, with the intervals of the table. -/
def Obligations.AngleRangeAndShape : Prop :=
  (∀ p : Sample, (v2aAngle p.toInt).toNat ≤ 150) ∧
  (∀ p q : Sample, p.toInt ≤ q.toInt → (v2aAngle q.toInt).toNat ≤ (v2aAngle p.toInt).toNat) ∧
  (∀ p : Sample, 128 ≤ (v2aAngle p.toInt).toNat ↔ p.toInt ≤ -23157) ∧
  (∀ p : Sample,
    ((v2aAngle p.toInt).toNat = 150 ↔ p.toInt = -32768) ∧
    ((v2aAngle p.toInt).toNat = 149 ↔ -32767 ≤ p.toInt ∧ p.toInt ≤ -32332) ∧
    ((v2aAngle p.toInt).toNat = 128 ↔ -23592 ≤ p.toInt ∧ p.toInt ≤ -23157) ∧
    ((v2aAngle p.toInt).toNat = 127 ↔ -23156 ≤ p.toInt ∧ p.toInt ≤ -22720) ∧
    ((v2aAngle p.toInt).toNat = 76 ↔ -873 ≤ p.toInt ∧ p.toInt ≤ -437) ∧
    ((v2aAngle p.toInt).toNat = 75 ↔ -436 ≤ p.toInt ∧ p.toInt ≤ 0) ∧
    ((v2aAngle p.toInt).toNat = 74 ↔ 1 ≤ p.toInt ∧ p.toInt ≤ 436) ∧
    ((v2aAngle p.toInt).toNat = 1 ↔ 31895 ≤ p.toInt ∧ p.toInt ≤ 32331) ∧
    ((v2aAngle p.toInt).toNat = 0 ↔ 32332 ≤ p.toInt))

/-- 20_memory.md R46, R47, R40: `Acquire()` answers exactly when both busy-waits end, with the low byte in the low half. -/
def Obligations.AcquireAnswersWhenBothWaitsEnd : Prop :=
  ∀ (c : Converter) (p : Sample), acquire c = some p ↔
    c.settles = true ∧ c.converts = true ∧ p.toNat = c.low.toNat + 256 * c.high.toNat

/-! ## Transmissions and cycles -/

/-- 41_frame.md R97: the bit length of a loaded frame is 9 for angles up to 127 and 8 for 128 to 150. -/
def Obligations.LoadedFrameLength : Prop :=
  ∀ s t : State, exec .frload s = .next t →
    (frameLength t.frame = 9 ↔ s.angle.toNat ≤ 127) ∧
    (128 ≤ s.angle.toNat → s.angle.toNat ≤ 150 → frameLength t.frame = 8) ∧
    1 ≤ frameLength t.frame ∧ frameLength t.frame ≤ 9

/-- 41_frame.md R97, R98, 30_encoding.md R64, 42_link_fsm.md R114: from the first TRANSMIT tick on, a frame of length L
is sent in 2 L ticks, one level per even tick, the framing level 0 and then the angle's bits; at the end the state is
ACKNOWLEDGE and the level last driven is 0. -/
def Obligations.TransmissionSendsTheAngle : Prop :=
  ∀ (s : State) (a : Byte) (is : List Inputs), s.Ready → s.InTransmit → s.tick % 2 = 1 →
    s.frame.toNat = 511 - 2 * a.toNat → 1 ≤ s.params.tickWidth → NoReset is →
    is.length = 2 * frameLength s.frame →
    levelsOf is s = slotLevels a (frameLength s.frame) ∧
    ∃ t, runTicks is s = .next t ∧ t.params = s.params ∧ t.regs = { s.regs with
      txf := false, ackf := true, frame := 0, dout := 0xFE, clk := false,
      tick := (s.tick + 2 * frameLength s.frame) % 2 ^ s.params.tickWidth }

/-- 41_frame.md R99: what a transmission puts on the line decodes to the angle, a missing slot taken as 1; up to 127 all
nine slots are there. -/
def Obligations.ReceiverRecoversTheAngle : Prop :=
  ∀ (s : State) (a : Byte) (is : List Inputs), s.Ready → s.InTransmit → s.tick % 2 = 1 →
    s.frame.toNat = 511 - 2 * a.toNat → 1 ≤ s.params.tickWidth → NoReset is →
    is.length = 2 * frameLength s.frame →
    decodeLevels (levelsOf is s) = a.toNat ∧ (levelsOf is s).head? = some false ∧
    (levelsOf is s).getLast? = some false ∧ (a.toNat ≤ 127 → (levelsOf is s).length = 9)

/-- 41_frame.md R98 with 10_state.md R26: in every reachable state, the tick that enters ACKNOWLEDGE leaves the byte 0xFE
and the line still driven. -/
def Obligations.AcknowledgeStartsFromLevelZero : Prop :=
  ∀ s t : State, s.Inv → step s = .next t → s.ackf = false → t.ackf = true → t.dout = 0xFE ∧ t.dir = true

/-- 70_reset_and_hazards.md R164: the last slot is driven for one tick; the tick after it, whatever it reads, releases the
line in its state logic, before its clock rise. -/
def Obligations.LastSlotIsReleasedBeforeItsClockRise : Prop :=
  ∀ (s t : State) (i : Inputs), 1 ≤ s.params.tickWidth → s.Running → s.InTransmit → s.dir = true → s.frame = 1 →
    s.tick % 2 = 0 → step s = .next t → i.rst = false →
    t.dir = true ∧ t.dout.getLsbD 0 = false ∧ t.clk = false ∧
    ∃ u v, (t.withInputs i).afterLogic = .next u ∧ u.dir = false ∧ u.clk = false ∧
      (t.withInputs i).afterClock = .next v ∧ v.dir = false ∧ v.clk = true

/-- 10_state.md R29, 30_encoding.md R63: after an emitting tick a driven line carries the complement of the frame bit
that left; a released line carries what others put on it. -/
def Obligations.LineShowsTheComplementedFrameBit : Prop :=
  (∀ (s t : State) (outside : Bool), s.Running → s.InTransmit → s.tick % 2 = 0 → s.dir = true → step s = .next t →
    lineLevel t outside = !s.frame.getLsbD 0) ∧
  (∀ (s : State) (outside : Bool), s.dir = false → lineLevel s outside = outside)

/-- 60_exceptions.md R137: without an acknowledge the block stays in ACKNOWLEDGE for any number of ticks, the line
released, the counter running, no sample taken, nothing put on the line. -/
def Obligations.NoAcknowledgeNoProgress : Prop :=
  ∀ (s : State) (is : List Inputs), s.Ready → s.InAcknowledge → 1 ≤ s.params.tickWidth → NoReset is →
    (∀ i ∈ is, i.dataIn = false) → 0 < is.length →
    levelsOf is s = [] ∧
    ∃ t, runTicks is s = .next t ∧ t.regs = { s.regs with
      dir := false, clk := decide ((s.tick + is.length) % 2 = 0),
      tick := (s.tick + is.length) % 2 ^ s.params.tickWidth }

/-- 60_exceptions.md R136: where `Acquire()` never returns, the tick sets `DIR` and raises the request and nothing else of
it happens; `FAULT` stays 0, and no further step is enabled, whatever the inputs, but reset (70_reset_and_hazards.md
R149). That a block with no enabled step answers an outcome without a next state is log entry 2. -/
def Obligations.StuckInAcquisition : Prop :=
  ∀ (s : State) (i : Inputs), s.Ready → s.InIdle → s.tick % 50 = 0 → i.rst = false → i.rawValid = false →
    levelsOf [i] s = [] ∧
    ∃ t, step (s.withInputs i) = .next t ∧ t.regs = { s.regs with dir := true, sampleReq := true } ∧
      (∀ is : List Inputs, NoReset is → is ≠ [] →
        levelsOf is t = [] ∧ runTicks is t = .fault .stuckInAcquisition) ∧
      (∀ j : Inputs, j.rst = true →
        ∃ u, step (t.withInputs j) = .next u ∧ u.regs = Registers.resetWith s.params)

/-- 42_link_fsm.md R114: one whole cycle. A sampling tick at T, 2 L ticks of TRANSMIT, n ticks of waiting, the tick that
sees the acknowledge: the block is in IDLE again, L levels have gone out, and T has advanced by 2 L + n + 2. -/
def Obligations.OneCycle : Prop :=
  ∀ (s : State) (first last : Inputs) (sending waits : List Inputs) (a : Byte) (f : Frame),
    s.Ready → s.InIdle → s.tick % 50 = 0 → 1 ≤ s.params.tickWidth →
    first.rst = false → first.rawValid = true →
    a = BitVec.ofInt 8 ((2457600 - 75 * first.rawIn.toInt) / 32768) → f = BitVec.ofNat 9 (511 - 2 * a.toNat) →
    NoReset sending → sending.length = 2 * frameLength f →
    NoReset waits → (∀ i ∈ waits, i.dataIn = false) → last.rst = false → last.dataIn = true →
    levelsOf (first :: (sending ++ (waits ++ [last]))) s = slotLevels a (frameLength f) ∧
    ∃ t, runTicks (first :: (sending ++ (waits ++ [last]))) s = .next t ∧ t.regs = { s.regs with
      dir := false, raw := first.rawIn, angle := a, frame := 0, dout := 0xFE, sampleReq := false,
      clk := decide (waits.length % 2 = 0),
      tick := (s.tick + 2 * frameLength f + waits.length + 2) % 2 ^ s.params.tickWidth }
end

