-- ==== Sys2Proof/Laws/State.lean ====
section
/-! SUPPORT. One lemma per field per update of the block's registers, and per update of the machine what it does to the
block, the inputs and the bench: all true by unfolding, so that no later proof unfolds a record update. -/

namespace Sys2Proof.Machine

/-! The registers after `setPhase` (10_state.md R17). -/

@[simp] theorem Registers.setPhase_txf (b : Registers) (p : Phase) : (b.setPhase p).txf = (p == .transmit) := rfl
@[simp] theorem Registers.setPhase_ackf (b : Registers) (p : Phase) : (b.setPhase p).ackf = (p == .acknowledge) := rfl
@[simp] theorem Registers.setPhase_frame (b : Registers) (p : Phase) : (b.setPhase p).frame = b.frame := rfl
@[simp] theorem Registers.setPhase_tick (b : Registers) (p : Phase) : (b.setPhase p).tick = b.tick := rfl
@[simp] theorem Registers.setPhase_clk (b : Registers) (p : Phase) : (b.setPhase p).clk = b.clk := rfl
@[simp] theorem Registers.setPhase_dout (b : Registers) (p : Phase) : (b.setPhase p).dout = b.dout := rfl
@[simp] theorem Registers.setPhase_dir (b : Registers) (p : Phase) : (b.setPhase p).dir = b.dir := rfl
@[simp] theorem Registers.setPhase_raw (b : Registers) (p : Phase) : (b.setPhase p).raw = b.raw := rfl
@[simp] theorem Registers.setPhase_angle (b : Registers) (p : Phase) : (b.setPhase p).angle = b.angle := rfl
@[simp] theorem Registers.setPhase_fault (b : Registers) (p : Phase) : (b.setPhase p).fault = b.fault := rfl
@[simp] theorem Registers.setPhase_sampleReq (b : Registers) (p : Phase) : (b.setPhase p).sampleReq = b.sampleReq := rfl

/-! The registers after `setDir` (10_state.md R26). -/

@[simp] theorem Registers.setDir_txf (b : Registers) (v : Bool) : (b.setDir v).txf = b.txf := rfl
@[simp] theorem Registers.setDir_ackf (b : Registers) (v : Bool) : (b.setDir v).ackf = b.ackf := rfl
@[simp] theorem Registers.setDir_frame (b : Registers) (v : Bool) : (b.setDir v).frame = b.frame := rfl
@[simp] theorem Registers.setDir_tick (b : Registers) (v : Bool) : (b.setDir v).tick = b.tick := rfl
@[simp] theorem Registers.setDir_clk (b : Registers) (v : Bool) : (b.setDir v).clk = b.clk := rfl
@[simp] theorem Registers.setDir_dout (b : Registers) (v : Bool) : (b.setDir v).dout = b.dout := rfl
@[simp] theorem Registers.setDir_dir (b : Registers) (v : Bool) : (b.setDir v).dir = v := rfl
@[simp] theorem Registers.setDir_raw (b : Registers) (v : Bool) : (b.setDir v).raw = b.raw := rfl
@[simp] theorem Registers.setDir_angle (b : Registers) (v : Bool) : (b.setDir v).angle = b.angle := rfl
@[simp] theorem Registers.setDir_fault (b : Registers) (v : Bool) : (b.setDir v).fault = b.fault := rfl
@[simp] theorem Registers.setDir_sampleReq (b : Registers) (v : Bool) : (b.setDir v).sampleReq = b.sampleReq := rfl

/-! The registers after `setSampleReq` (20_memory.md R52). -/

@[simp] theorem Registers.setSampleReq_txf (b : Registers) (v : Bool) : (b.setSampleReq v).txf = b.txf := rfl
@[simp] theorem Registers.setSampleReq_ackf (b : Registers) (v : Bool) : (b.setSampleReq v).ackf = b.ackf := rfl
@[simp] theorem Registers.setSampleReq_frame (b : Registers) (v : Bool) : (b.setSampleReq v).frame = b.frame := rfl
@[simp] theorem Registers.setSampleReq_tick (b : Registers) (v : Bool) : (b.setSampleReq v).tick = b.tick := rfl
@[simp] theorem Registers.setSampleReq_clk (b : Registers) (v : Bool) : (b.setSampleReq v).clk = b.clk := rfl
@[simp] theorem Registers.setSampleReq_dout (b : Registers) (v : Bool) : (b.setSampleReq v).dout = b.dout := rfl
@[simp] theorem Registers.setSampleReq_dir (b : Registers) (v : Bool) : (b.setSampleReq v).dir = b.dir := rfl
@[simp] theorem Registers.setSampleReq_raw (b : Registers) (v : Bool) : (b.setSampleReq v).raw = b.raw := rfl
@[simp] theorem Registers.setSampleReq_angle (b : Registers) (v : Bool) : (b.setSampleReq v).angle = b.angle := rfl
@[simp] theorem Registers.setSampleReq_fault (b : Registers) (v : Bool) : (b.setSampleReq v).fault = b.fault := rfl
@[simp] theorem Registers.setSampleReq_sampleReq (b : Registers) (v : Bool) : (b.setSampleReq v).sampleReq = v := rfl

/-! The registers after `takeSample` (42_link_fsm.md R104). -/

@[simp] theorem Registers.takeSample_txf (b : Registers) (p : Sample) : (b.takeSample p).txf = b.txf := rfl
@[simp] theorem Registers.takeSample_ackf (b : Registers) (p : Sample) : (b.takeSample p).ackf = b.ackf := rfl
@[simp] theorem Registers.takeSample_frame (b : Registers) (p : Sample) : (b.takeSample p).frame = b.frame := rfl
@[simp] theorem Registers.takeSample_tick (b : Registers) (p : Sample) : (b.takeSample p).tick = b.tick := rfl
@[simp] theorem Registers.takeSample_clk (b : Registers) (p : Sample) : (b.takeSample p).clk = b.clk := rfl
@[simp] theorem Registers.takeSample_dout (b : Registers) (p : Sample) : (b.takeSample p).dout = b.dout := rfl
@[simp] theorem Registers.takeSample_dir (b : Registers) (p : Sample) : (b.takeSample p).dir = b.dir := rfl
@[simp] theorem Registers.takeSample_raw (b : Registers) (p : Sample) : (b.takeSample p).raw = p := rfl
@[simp] theorem Registers.takeSample_angle (b : Registers) (p : Sample) : (b.takeSample p).angle = v2aAngle p.toInt := rfl
@[simp] theorem Registers.takeSample_fault (b : Registers) (p : Sample) : (b.takeSample p).fault = b.fault := rfl
@[simp] theorem Registers.takeSample_sampleReq (b : Registers) (p : Sample) : (b.takeSample p).sampleReq = b.sampleReq := rfl

/-! The registers after `loadFrame` (41_frame.md R92). -/

@[simp] theorem Registers.loadFrame_txf (b : Registers) : b.loadFrame.txf = b.txf := rfl
@[simp] theorem Registers.loadFrame_ackf (b : Registers) : b.loadFrame.ackf = b.ackf := rfl
@[simp] theorem Registers.loadFrame_frame (b : Registers) : b.loadFrame.frame = loadedFrame b.angle := rfl
@[simp] theorem Registers.loadFrame_tick (b : Registers) : b.loadFrame.tick = b.tick := rfl
@[simp] theorem Registers.loadFrame_clk (b : Registers) : b.loadFrame.clk = b.clk := rfl
@[simp] theorem Registers.loadFrame_dout (b : Registers) : b.loadFrame.dout = b.dout := rfl
@[simp] theorem Registers.loadFrame_dir (b : Registers) : b.loadFrame.dir = b.dir := rfl
@[simp] theorem Registers.loadFrame_raw (b : Registers) : b.loadFrame.raw = b.raw := rfl
@[simp] theorem Registers.loadFrame_angle (b : Registers) : b.loadFrame.angle = b.angle := rfl
@[simp] theorem Registers.loadFrame_fault (b : Registers) : b.loadFrame.fault = b.fault := rfl
@[simp] theorem Registers.loadFrame_sampleReq (b : Registers) : b.loadFrame.sampleReq = b.sampleReq := rfl

/-! The registers after `emit` (41_frame.md R93). -/

@[simp] theorem Registers.emit_txf (b : Registers) : b.emit.txf = b.txf := rfl
@[simp] theorem Registers.emit_ackf (b : Registers) : b.emit.ackf = b.ackf := rfl
@[simp] theorem Registers.emit_frame (b : Registers) : b.emit.frame = b.frame := rfl
@[simp] theorem Registers.emit_tick (b : Registers) : b.emit.tick = b.tick := rfl
@[simp] theorem Registers.emit_clk (b : Registers) : b.emit.clk = b.clk := rfl
@[simp] theorem Registers.emit_dout (b : Registers) : b.emit.dout = lineByte b.frame := rfl
@[simp] theorem Registers.emit_dir (b : Registers) : b.emit.dir = b.dir := rfl
@[simp] theorem Registers.emit_raw (b : Registers) : b.emit.raw = b.raw := rfl
@[simp] theorem Registers.emit_angle (b : Registers) : b.emit.angle = b.angle := rfl
@[simp] theorem Registers.emit_fault (b : Registers) : b.emit.fault = b.fault := rfl
@[simp] theorem Registers.emit_sampleReq (b : Registers) : b.emit.sampleReq = b.sampleReq := rfl

/-! The registers after `shiftFrame` (41_frame.md R94). -/

@[simp] theorem Registers.shiftFrame_txf (b : Registers) : b.shiftFrame.txf = b.txf := rfl
@[simp] theorem Registers.shiftFrame_ackf (b : Registers) : b.shiftFrame.ackf = b.ackf := rfl
@[simp] theorem Registers.shiftFrame_frame (b : Registers) : b.shiftFrame.frame = shiftedFrame b.frame := rfl
@[simp] theorem Registers.shiftFrame_tick (b : Registers) : b.shiftFrame.tick = b.tick := rfl
@[simp] theorem Registers.shiftFrame_clk (b : Registers) : b.shiftFrame.clk = b.clk := rfl
@[simp] theorem Registers.shiftFrame_dout (b : Registers) : b.shiftFrame.dout = b.dout := rfl
@[simp] theorem Registers.shiftFrame_dir (b : Registers) : b.shiftFrame.dir = b.dir := rfl
@[simp] theorem Registers.shiftFrame_raw (b : Registers) : b.shiftFrame.raw = b.raw := rfl
@[simp] theorem Registers.shiftFrame_angle (b : Registers) : b.shiftFrame.angle = b.angle := rfl
@[simp] theorem Registers.shiftFrame_fault (b : Registers) : b.shiftFrame.fault = b.fault := rfl
@[simp] theorem Registers.shiftFrame_sampleReq (b : Registers) : b.shiftFrame.sampleReq = b.sampleReq := rfl

/-! The registers after `clkUpd` (43_clock_divider.md R122). -/

@[simp] theorem Registers.clkUpd_txf (b : Registers) : b.clkUpd.txf = b.txf := rfl
@[simp] theorem Registers.clkUpd_ackf (b : Registers) : b.clkUpd.ackf = b.ackf := rfl
@[simp] theorem Registers.clkUpd_frame (b : Registers) : b.clkUpd.frame = b.frame := rfl
@[simp] theorem Registers.clkUpd_tick (b : Registers) : b.clkUpd.tick = b.tick := rfl
@[simp] theorem Registers.clkUpd_clk (b : Registers) : b.clkUpd.clk = (b.tick % bitDiv == 1) := rfl
@[simp] theorem Registers.clkUpd_dout (b : Registers) : b.clkUpd.dout = b.dout := rfl
@[simp] theorem Registers.clkUpd_dir (b : Registers) : b.clkUpd.dir = b.dir := rfl
@[simp] theorem Registers.clkUpd_raw (b : Registers) : b.clkUpd.raw = b.raw := rfl
@[simp] theorem Registers.clkUpd_angle (b : Registers) : b.clkUpd.angle = b.angle := rfl
@[simp] theorem Registers.clkUpd_fault (b : Registers) : b.clkUpd.fault = b.fault := rfl
@[simp] theorem Registers.clkUpd_sampleReq (b : Registers) : b.clkUpd.sampleReq = b.sampleReq := rfl

/-! The registers after `tickInc` (43_clock_divider.md R124). -/

@[simp] theorem Registers.tickInc_txf (b : Registers) (w : Nat) : (b.tickInc w).txf = b.txf := rfl
@[simp] theorem Registers.tickInc_ackf (b : Registers) (w : Nat) : (b.tickInc w).ackf = b.ackf := rfl
@[simp] theorem Registers.tickInc_frame (b : Registers) (w : Nat) : (b.tickInc w).frame = b.frame := rfl
@[simp] theorem Registers.tickInc_tick (b : Registers) (w : Nat) : (b.tickInc w).tick = (b.tick + 1) % 2 ^ w := rfl
@[simp] theorem Registers.tickInc_clk (b : Registers) (w : Nat) : (b.tickInc w).clk = b.clk := rfl
@[simp] theorem Registers.tickInc_dout (b : Registers) (w : Nat) : (b.tickInc w).dout = b.dout := rfl
@[simp] theorem Registers.tickInc_dir (b : Registers) (w : Nat) : (b.tickInc w).dir = b.dir := rfl
@[simp] theorem Registers.tickInc_raw (b : Registers) (w : Nat) : (b.tickInc w).raw = b.raw := rfl
@[simp] theorem Registers.tickInc_angle (b : Registers) (w : Nat) : (b.tickInc w).angle = b.angle := rfl
@[simp] theorem Registers.tickInc_fault (b : Registers) (w : Nat) : (b.tickInc w).fault = b.fault := rfl
@[simp] theorem Registers.tickInc_sampleReq (b : Registers) (w : Nat) : (b.tickInc w).sampleReq = b.sampleReq := rfl

/-! The registers after `finishTick` (43_clock_divider.md R126). -/

@[simp] theorem Registers.finishTick_txf (b : Registers) (w : Nat) : (b.finishTick w).txf = b.txf := rfl
@[simp] theorem Registers.finishTick_ackf (b : Registers) (w : Nat) : (b.finishTick w).ackf = b.ackf := rfl
@[simp] theorem Registers.finishTick_frame (b : Registers) (w : Nat) : (b.finishTick w).frame = b.frame := rfl
@[simp] theorem Registers.finishTick_tick (b : Registers) (w : Nat) : (b.finishTick w).tick = (b.tick + 1) % 2 ^ w := rfl
@[simp] theorem Registers.finishTick_clk (b : Registers) (w : Nat) : (b.finishTick w).clk = (b.tick % bitDiv == 1) := rfl
@[simp] theorem Registers.finishTick_dout (b : Registers) (w : Nat) : (b.finishTick w).dout = b.dout := rfl
@[simp] theorem Registers.finishTick_dir (b : Registers) (w : Nat) : (b.finishTick w).dir = b.dir := rfl
@[simp] theorem Registers.finishTick_raw (b : Registers) (w : Nat) : (b.finishTick w).raw = b.raw := rfl
@[simp] theorem Registers.finishTick_angle (b : Registers) (w : Nat) : (b.finishTick w).angle = b.angle := rfl
@[simp] theorem Registers.finishTick_fault (b : Registers) (w : Nat) : (b.finishTick w).fault = b.fault := rfl
@[simp] theorem Registers.finishTick_sampleReq (b : Registers) (w : Nat) : (b.finishTick w).sampleReq = b.sampleReq := rfl

/-! The registers after `requestSample` (42_link_fsm.md R104). -/

@[simp] theorem Registers.requestSample_txf (b : Registers) : b.requestSample.txf = b.txf := rfl
@[simp] theorem Registers.requestSample_ackf (b : Registers) : b.requestSample.ackf = b.ackf := rfl
@[simp] theorem Registers.requestSample_frame (b : Registers) : b.requestSample.frame = b.frame := rfl
@[simp] theorem Registers.requestSample_tick (b : Registers) : b.requestSample.tick = b.tick := rfl
@[simp] theorem Registers.requestSample_clk (b : Registers) : b.requestSample.clk = b.clk := rfl
@[simp] theorem Registers.requestSample_dout (b : Registers) : b.requestSample.dout = b.dout := rfl
@[simp] theorem Registers.requestSample_dir (b : Registers) : b.requestSample.dir = true := rfl
@[simp] theorem Registers.requestSample_raw (b : Registers) : b.requestSample.raw = b.raw := rfl
@[simp] theorem Registers.requestSample_angle (b : Registers) : b.requestSample.angle = b.angle := rfl
@[simp] theorem Registers.requestSample_fault (b : Registers) : b.requestSample.fault = b.fault := rfl
@[simp] theorem Registers.requestSample_sampleReq (b : Registers) : b.requestSample.sampleReq = true := rfl

/-! The registers after `acceptSample` (42_link_fsm.md R104). -/

@[simp] theorem Registers.acceptSample_txf (b : Registers) (p : Sample) : (b.acceptSample p).txf = true := rfl
@[simp] theorem Registers.acceptSample_ackf (b : Registers) (p : Sample) : (b.acceptSample p).ackf = false := rfl
@[simp] theorem Registers.acceptSample_frame (b : Registers) (p : Sample) : (b.acceptSample p).frame = loadedFrame (v2aAngle p.toInt) := rfl
@[simp] theorem Registers.acceptSample_tick (b : Registers) (p : Sample) : (b.acceptSample p).tick = b.tick := rfl
@[simp] theorem Registers.acceptSample_clk (b : Registers) (p : Sample) : (b.acceptSample p).clk = b.clk := rfl
@[simp] theorem Registers.acceptSample_dout (b : Registers) (p : Sample) : (b.acceptSample p).dout = b.dout := rfl
@[simp] theorem Registers.acceptSample_dir (b : Registers) (p : Sample) : (b.acceptSample p).dir = b.dir := rfl
@[simp] theorem Registers.acceptSample_raw (b : Registers) (p : Sample) : (b.acceptSample p).raw = p := rfl
@[simp] theorem Registers.acceptSample_angle (b : Registers) (p : Sample) : (b.acceptSample p).angle = v2aAngle p.toInt := rfl
@[simp] theorem Registers.acceptSample_fault (b : Registers) (p : Sample) : (b.acceptSample p).fault = b.fault := rfl
@[simp] theorem Registers.acceptSample_sampleReq (b : Registers) (p : Sample) : (b.acceptSample p).sampleReq = false := rfl

/-! The registers after `raiseFatal` (60_exceptions.md R133). -/

@[simp] theorem Registers.raiseFatal_txf (c : Cause) (b : Registers) : (b.raiseFatal c).txf = b.txf := rfl
@[simp] theorem Registers.raiseFatal_ackf (c : Cause) (b : Registers) : (b.raiseFatal c).ackf = b.ackf := rfl
@[simp] theorem Registers.raiseFatal_frame (c : Cause) (b : Registers) : (b.raiseFatal c).frame = b.frame := rfl
@[simp] theorem Registers.raiseFatal_tick (c : Cause) (b : Registers) : (b.raiseFatal c).tick = b.tick := rfl
@[simp] theorem Registers.raiseFatal_clk (c : Cause) (b : Registers) : (b.raiseFatal c).clk = b.clk := rfl
@[simp] theorem Registers.raiseFatal_dout (c : Cause) (b : Registers) : (b.raiseFatal c).dout = b.dout := rfl
@[simp] theorem Registers.raiseFatal_dir (c : Cause) (b : Registers) : (b.raiseFatal c).dir = b.dir := rfl
@[simp] theorem Registers.raiseFatal_raw (c : Cause) (b : Registers) : (b.raiseFatal c).raw = b.raw := rfl
@[simp] theorem Registers.raiseFatal_angle (c : Cause) (b : Registers) : (b.raiseFatal c).angle = b.angle := rfl
@[simp] theorem Registers.raiseFatal_fault (c : Cause) (b : Registers) : (b.raiseFatal c).fault = true := rfl
@[simp] theorem Registers.raiseFatal_sampleReq (c : Cause) (b : Registers) : (b.raiseFatal c).sampleReq = b.sampleReq := rfl

/-! The registers after reset (10_state.md R33). -/

@[simp] theorem Registers.resetWith_txf (p : Params) : (Registers.resetWith p).txf = false := rfl
@[simp] theorem Registers.resetWith_ackf (p : Params) : (Registers.resetWith p).ackf = false := rfl
@[simp] theorem Registers.resetWith_frame (p : Params) : (Registers.resetWith p).frame = 0 := rfl
@[simp] theorem Registers.resetWith_tick (p : Params) : (Registers.resetWith p).tick = p.tick0 % 2 ^ p.tickWidth := rfl
@[simp] theorem Registers.resetWith_clk (p : Params) : (Registers.resetWith p).clk = false := rfl
@[simp] theorem Registers.resetWith_dout (p : Params) : (Registers.resetWith p).dout = 0 := rfl
@[simp] theorem Registers.resetWith_dir (p : Params) : (Registers.resetWith p).dir = false := rfl
@[simp] theorem Registers.resetWith_raw (p : Params) : (Registers.resetWith p).raw = 0 := rfl
@[simp] theorem Registers.resetWith_angle (p : Params) : (Registers.resetWith p).angle = 0 := rfl
@[simp] theorem Registers.resetWith_fault (p : Params) : (Registers.resetWith p).fault = false := rfl
@[simp] theorem Registers.resetWith_sampleReq (p : Params) : (Registers.resetWith p).sampleReq = false := rfl

/-! The machine's updates: the block in other registers, everything else as it was. -/

@[simp] theorem State.withBlock_toRegisters (s : State) (b : Registers) : (s.withBlock b).toRegisters = b := rfl
@[simp] theorem State.withBlock_toInputs (s : State) (b : Registers) : (s.withBlock b).toInputs = s.toInputs := rfl
@[simp] theorem State.withBlock_toBench (s : State) (b : Registers) : (s.withBlock b).toBench = s.toBench := rfl
@[simp] theorem State.setPhase_toRegisters (s : State) (p : Phase) : (s.setPhase p).toRegisters = s.toRegisters.setPhase p := rfl
@[simp] theorem State.setPhase_toInputs (s : State) (p : Phase) : (s.setPhase p).toInputs = s.toInputs := rfl
@[simp] theorem State.setPhase_toBench (s : State) (p : Phase) : (s.setPhase p).toBench = s.toBench := rfl
@[simp] theorem State.setDir_toRegisters (s : State) (v : Bool) : (s.setDir v).toRegisters = s.toRegisters.setDir v := rfl
@[simp] theorem State.setDir_toInputs (s : State) (v : Bool) : (s.setDir v).toInputs = s.toInputs := rfl
@[simp] theorem State.setDir_toBench (s : State) (v : Bool) : (s.setDir v).toBench = s.toBench := rfl
@[simp] theorem State.loadFrame_toRegisters (s : State) : s.loadFrame.toRegisters = s.toRegisters.loadFrame := rfl
@[simp] theorem State.loadFrame_toInputs (s : State) : s.loadFrame.toInputs = s.toInputs := rfl
@[simp] theorem State.loadFrame_toBench (s : State) : s.loadFrame.toBench = s.toBench := rfl
@[simp] theorem State.emit_toRegisters (s : State) : s.emit.toRegisters = s.toRegisters.emit := rfl
@[simp] theorem State.emit_toInputs (s : State) : s.emit.toInputs = s.toInputs := rfl
@[simp] theorem State.emit_toBench (s : State) : s.emit.toBench = s.toBench := rfl
@[simp] theorem State.shiftFrame_toRegisters (s : State) : s.shiftFrame.toRegisters = s.toRegisters.shiftFrame := rfl
@[simp] theorem State.shiftFrame_toInputs (s : State) : s.shiftFrame.toInputs = s.toInputs := rfl
@[simp] theorem State.shiftFrame_toBench (s : State) : s.shiftFrame.toBench = s.toBench := rfl
@[simp] theorem State.clkUpd_toRegisters (s : State) : s.clkUpd.toRegisters = s.toRegisters.clkUpd := rfl
@[simp] theorem State.clkUpd_toInputs (s : State) : s.clkUpd.toInputs = s.toInputs := rfl
@[simp] theorem State.clkUpd_toBench (s : State) : s.clkUpd.toBench = s.toBench := rfl
@[simp] theorem State.tickInc_toRegisters (s : State) : s.tickInc.toRegisters = s.toRegisters.tickInc s.params.tickWidth := rfl
@[simp] theorem State.tickInc_toInputs (s : State) : s.tickInc.toInputs = s.toInputs := rfl
@[simp] theorem State.tickInc_toBench (s : State) : s.tickInc.toBench = s.toBench := rfl
@[simp] theorem State.finishTick_toRegisters (s : State) : s.finishTick.toRegisters = s.toRegisters.finishTick s.params.tickWidth := rfl
@[simp] theorem State.finishTick_toInputs (s : State) : s.finishTick.toInputs = s.toInputs := rfl
@[simp] theorem State.finishTick_toBench (s : State) : s.finishTick.toBench = s.toBench := rfl
@[simp] theorem State.requestSample_toRegisters (s : State) : s.requestSample.toRegisters = s.toRegisters.requestSample := rfl
@[simp] theorem State.requestSample_toInputs (s : State) : s.requestSample.toInputs = s.toInputs := rfl
@[simp] theorem State.requestSample_toBench (s : State) : s.requestSample.toBench = s.toBench := rfl
@[simp] theorem State.acceptSample_toRegisters (s : State) (p : Sample) : (s.acceptSample p).toRegisters = s.toRegisters.acceptSample p := rfl
@[simp] theorem State.acceptSample_toInputs (s : State) (p : Sample) : (s.acceptSample p).toInputs = s.toInputs := rfl
@[simp] theorem State.acceptSample_toBench (s : State) (p : Sample) : (s.acceptSample p).toBench = s.toBench := rfl
@[simp] theorem raiseFatal_toRegisters (c : Cause) (s : State) : (raiseFatal c s).toRegisters = s.toRegisters.raiseFatal c := rfl
@[simp] theorem raiseFatal_toInputs (c : Cause) (s : State) : (raiseFatal c s).toInputs = s.toInputs := rfl
@[simp] theorem raiseFatal_toBench (c : Cause) (s : State) : (raiseFatal c s).toBench = s.toBench := rfl

/-! The updates that leave the block alone, and reset. -/

@[simp] theorem State.answer_toRegisters (s : State) (r : FnOut) : (s.answer r).toRegisters = s.toRegisters := rfl
@[simp] theorem State.answer_toInputs (s : State) (r : FnOut) : (s.answer r).toInputs = s.toInputs := rfl
@[simp] theorem State.answer_params (s : State) (r : FnOut) : (s.answer r).params = s.params := rfl
@[simp] theorem State.answer_draws (s : State) (r : FnOut) : (s.answer r).draws = s.draws := rfl
@[simp] theorem State.answer_fnOut (s : State) (r : FnOut) : (s.answer r).fnOut = r := rfl
@[simp] theorem State.withInputs_toRegisters (s : State) (i : Inputs) : (s.withInputs i).toRegisters = s.toRegisters := rfl
@[simp] theorem State.withInputs_toInputs (s : State) (i : Inputs) : (s.withInputs i).toInputs = i := rfl
@[simp] theorem State.withInputs_toBench (s : State) (i : Inputs) : (s.withInputs i).toBench = s.toBench := rfl
@[simp] theorem State.redraw_toRegisters (s : State) : s.redraw.toRegisters = s.toRegisters := rfl
@[simp] theorem State.redraw_toInputs (s : State) : s.redraw.toInputs = inputsAt s.draws := rfl
@[simp] theorem State.redraw_params (s : State) : s.redraw.params = s.params := rfl
@[simp] theorem State.redraw_draws (s : State) : s.redraw.draws = s.draws + 1 := rfl
@[simp] theorem State.redraw_fnOut (s : State) : s.redraw.fnOut = s.fnOut := rfl
@[simp] theorem State.applyReset_toRegisters (s : State) : s.applyReset.toRegisters = Registers.resetWith s.params := rfl
@[simp] theorem State.applyReset_toInputs (s : State) : s.applyReset.toInputs = s.toInputs := rfl
@[simp] theorem State.applyReset_params (s : State) : s.applyReset.params = s.params := rfl
@[simp] theorem State.applyReset_draws (s : State) : s.applyReset.draws = s.draws := rfl
@[simp] theorem State.applyReset_fnOut (s : State) : s.applyReset.fnOut = .none := rfl
@[simp] theorem State.resetWith_toRegisters (p : Params) : (State.resetWith p).toRegisters = Registers.resetWith p := rfl
@[simp] theorem State.resetWith_rst (p : Params) : (State.resetWith p).rst = false := rfl
@[simp] theorem State.resetWith_params (p : Params) : (State.resetWith p).params = p := rfl
@[simp] theorem State.resetWith_fnOut (p : Params) : (State.resetWith p).fnOut = .none := rfl
@[simp] theorem State.withBlock_withBlock (s : State) (b c : Registers) :
    (s.withBlock b).withBlock c = s.withBlock c := rfl
@[simp] theorem State.regs_eq (s : State) : s.regs = s.toRegisters := rfl

/-! A tick's result. -/

@[simp] theorem Registers.completed_outcome (b : Registers) (p : Params) : (b.completed p).outcome = .ok := rfl
@[simp] theorem Registers.completed_block (b : Registers) (p : Params) :
    (b.completed p).block = b.finishTick p.tickWidth := rfl

end Sys2Proof.Machine
end

