-- ==== Sys2Proof/Laws/Ops.lean ====
section
/-! SUPPORT. What the value operations compute, said once: the frame, the line byte, the mapper, the gates. -/

namespace Sys2Proof.Machine

/-- FRLOAD's frame as a number: `511 - 2 * ANGLE` (30_encoding.md R62). -/
theorem loadedFrame_toNat (a : Byte) : (loadedFrame a).toNat = 511 - 2 * a.toNat := by
  have h : ∀ a : Byte, (loadedFrame a).toNat = 511 - 2 * a.toNat := by decide
  exact h a

/-- A loaded frame is never zero (R92). -/
theorem loadedFrame_ne_zero (a : Byte) : loadedFrame a ≠ 0 := by
  intro h
  have := loadedFrame_toNat a
  have := a.isLt
  simp_all
  omega

/-- FREMIT's byte as a number: `255 - FRAME[7:0]` (R93, R9). -/
theorem lineByte_toNat (f : Frame) : (lineByte f).toNat = 255 - f.toNat % 256 := by
  simp [lineByte, BitVec.toNat_not]

/-- FRSHIFT halves the frame (R94). -/
theorem shiftedFrame_toNat (f : Frame) : (shiftedFrame f).toNat = f.toNat / 2 := by
  simp [shiftedFrame, BitVec.toNat_ushiftRight, Nat.shiftRight_eq_div_pow]

/-- FRZERO (R95). -/
theorem frameIsZero_iff (f : Frame) : frameIsZero f = true ↔ f.toNat = 0 := by
  simp [frameIsZero, BitVec.toNat_eq]

theorem gate50Bit_iff (t : Nat) : gate50Bit t = true ↔ t % 50 = 0 := by
  simp [gate50Bit, sampleDiv]

theorem gate2Bit_iff (t : Nat) : gate2Bit t = true ↔ t % 2 = 0 := by
  simp [gate2Bit, bitDiv]

/-- ZN is the zero test of the frame this tick leaves (41_frame.md R96). -/
theorem znBit_iff (t : Nat) (f : Frame) :
    znBit t f = true ↔ if t % 2 = 0 then f.toNat ≤ 1 else f.toNat = 0 := by
  unfold znBit
  by_cases p : t % 2 = 0
  · rw [if_pos ((gate2Bit_iff t).2 p), if_pos p, frameIsZero_iff, shiftedFrame_toNat]
    omega
  · have : ¬gate2Bit t = true := fun q => p ((gate2Bit_iff t).1 q)
    rw [if_neg this, if_neg p, frameIsZero_iff]

/-- RAWCAT's pattern: the low byte counts 1, the high byte 256 (20_memory.md R40). -/
theorem rawPattern_toNat (lo hi : Byte) : (rawPattern lo hi).toNat = lo.toNat + hi.toNat * 256 := by
  have h := lo.isLt
  simp only [rawPattern, BitVec.toNat_append]
  rw [← Nat.shiftLeft_add_eq_or_of_lt (by omega), Nat.shiftLeft_eq]
  omega

/-- A 16-bit pattern's value lies in -32768..32767 (00_scope.md R9). -/
theorem sample_toInt_bounds (p : Sample) : -32768 ≤ p.toInt ∧ p.toInt ≤ 32767 := by
  have h := p.isLt
  have e := BitVec.toInt_eq_toNat_cond p
  split at e <;> omega

/-- V2A's quotient before narrowing lies in 0..150 (40_signal_mapper.md R86). -/
theorem v2aQuotient_bounds (p : Sample) :
    0 ≤ (2457600 - 75 * p.toInt) / 32768 ∧ (2457600 - 75 * p.toInt) / 32768 ≤ 150 := by
  have := sample_toInt_bounds p
  omega

/-- V2A is floor division by 32768 (40_signal_mapper.md R83, R89). -/
theorem v2aAngle_eq (raw : Int) : v2aAngle raw = BitVec.ofInt 8 ((2457600 - 75 * raw) / 32768) := by
  have c : v2aOffset = 2457600 ∧ v2aMul = 75 ∧ v2aShift = 15 := by decide
  simp [v2aAngle, c, Int.shiftRight_eq_div_pow]

/-- V2A's byte as a number (R83, R86). -/
theorem v2aAngle_toNat (p : Sample) :
    ((v2aAngle p.toInt).toNat : Int) = (2457600 - 75 * p.toInt) / 32768 := by
  have h := v2aQuotient_bounds p
  rw [v2aAngle_eq, BitVec.toNat_ofInt]
  omega

/-- The admitted parameters (00_scope.md R8). -/
theorem wellFormed_params_iff (p : Params) :
    p.wellFormed = true ↔ 6 ≤ p.tickWidth ∧ p.tick0 < 2 ^ p.tickWidth := by
  have e : p.wellFormed = (decide (6 ≤ p.tickWidth) && decide (p.tick0 < 2 ^ p.tickWidth)) := rfl
  rw [e]
  simp

/-- The voltages for which TOANGLE's byte is given (R84). -/
theorem voltageInRange_iff (v : Rat) : voltageInRange v = true ↔ -5 ≤ v ∧ v ≤ 5 := by
  have e : voltageInRange v = (decide (-((5 : Nat) : Rat) ≤ v) && decide (v ≤ ((5 : Nat) : Rat))) := rfl
  rw [e, Bool.and_eq_true, decide_eq_true_eq, decide_eq_true_eq]
  norm_num

/-- CLKUPD's level (R122). -/
theorem clockLevel_eq (t : Nat) : (t % bitDiv == 1) = decide (t % 2 = 1) := by
  simp only [bitDiv]
  by_cases h : t % 2 = 1 <;> simp [h]

/-- The parity of a wrapped counter is the counter's (R120): `2^W` is even. -/
theorem parity_of_wrapped (n w : Nat) (h : 1 ≤ w) : n % 2 ^ w % 2 = n % 2 :=
  Nat.mod_mod_of_dvd _ (dvd_pow_self 2 (by omega))

end Sys2Proof.Machine
end

