-- ==== Sys2Proof/Laws/PerInstr.lean ====
section
/-! SUPPORT. Per operation: the selector words that decode to it are exactly the fillings of its row of the operation map
(spec/30_encoding.md R70); a datapath function has none (R71). -/

namespace Sys2Proof

/-- The words the decoder reads as `i` are those that agree with `i`'s pattern outside its don't-care bits. -/
def Laws.RowMatch.Statement (i : Instr) : Prop :=
  ∀ w : Sel, decodeSel w = i ↔ ∃ p, encodeSel i = some p ∧ w &&& ~~~(dontCare i) = p

/-- The decoder answers tick operations only (R71). -/
theorem encodeSel_decodeSel_ne_none (w : Sel) : encodeSel (decodeSel w) ≠ none := by
  revert w
  decide

/-- An operation without a word is decoded from no word. -/
theorem Laws.RowMatch.of_no_word {i : Instr} (h : encodeSel i = none) : Laws.RowMatch.Statement i := by
  intro w
  constructor
  · intro e
    exact absurd (e ▸ h) (encodeSel_decodeSel_ne_none w)
  · rintro ⟨p, hp, -⟩
    rw [h] at hp
    cases hp

/-- An operation with a word: the 64 words are checked one by one. -/
theorem Laws.RowMatch.of_word {i : Instr} {p : Sel} (h : encodeSel i = some p)
    (all : ∀ w : Sel, decodeSel w = i ↔ w &&& ~~~(dontCare i) = p) : Laws.RowMatch.Statement i := by
  intro w
  rw [all w]
  simp [h, eq_comm]

theorem Laws.RowMatch.idleWait : Laws.RowMatch.Statement .idleWait := Laws.RowMatch.of_word rfl (by decide)
theorem Laws.RowMatch.idleSample : Laws.RowMatch.Statement .idleSample := Laws.RowMatch.of_word rfl (by decide)
theorem Laws.RowMatch.txHold : Laws.RowMatch.Statement .txHold := Laws.RowMatch.of_word rfl (by decide)
theorem Laws.RowMatch.txHoldEnd : Laws.RowMatch.Statement .txHoldEnd := Laws.RowMatch.of_word rfl (by decide)
theorem Laws.RowMatch.txShift : Laws.RowMatch.Statement .txShift := Laws.RowMatch.of_word rfl (by decide)
theorem Laws.RowMatch.txShiftEnd : Laws.RowMatch.Statement .txShiftEnd := Laws.RowMatch.of_word rfl (by decide)
theorem Laws.RowMatch.ackWait : Laws.RowMatch.Statement .ackWait := Laws.RowMatch.of_word rfl (by decide)
theorem Laws.RowMatch.ackDone : Laws.RowMatch.Statement .ackDone := Laws.RowMatch.of_word rfl (by decide)
theorem Laws.RowMatch.fatal : Laws.RowMatch.Statement .fatal := Laws.RowMatch.of_word rfl (by decide)
theorem Laws.RowMatch.rawcat (lo hi : Byte) : Laws.RowMatch.Statement (.rawcat lo hi) := Laws.RowMatch.of_no_word rfl
theorem Laws.RowMatch.tovolt (raw : Sample) : Laws.RowMatch.Statement (.tovolt raw) := Laws.RowMatch.of_no_word rfl
theorem Laws.RowMatch.toangle (v : Rat) : Laws.RowMatch.Statement (.toangle v) := Laws.RowMatch.of_no_word rfl
theorem Laws.RowMatch.v2a (raw : Sample) : Laws.RowMatch.Statement (.v2a raw) := Laws.RowMatch.of_no_word rfl
theorem Laws.RowMatch.frload : Laws.RowMatch.Statement .frload := Laws.RowMatch.of_no_word rfl
theorem Laws.RowMatch.fremit : Laws.RowMatch.Statement .fremit := Laws.RowMatch.of_no_word rfl
theorem Laws.RowMatch.frshift : Laws.RowMatch.Statement .frshift := Laws.RowMatch.of_no_word rfl
theorem Laws.RowMatch.frzero : Laws.RowMatch.Statement .frzero := Laws.RowMatch.of_no_word rfl
theorem Laws.RowMatch.gate50 : Laws.RowMatch.Statement .gate50 := Laws.RowMatch.of_no_word rfl
theorem Laws.RowMatch.gate2 : Laws.RowMatch.Statement .gate2 := Laws.RowMatch.of_no_word rfl
theorem Laws.RowMatch.clkupd : Laws.RowMatch.Statement .clkupd := Laws.RowMatch.of_no_word rfl
theorem Laws.RowMatch.tickinc : Laws.RowMatch.Statement .tickinc := Laws.RowMatch.of_no_word rfl

end Sys2Proof
end

