-- ==== Sys2Proof/Laws/Selector.lean ====
section
/-! SUPPORT. The selector's bits and, per state of the machine, the operation the coming tick selects. -/

namespace Sys2Proof.Machine

/-- Decoding a packed selector looks at the six conditions (30_encoding.md R68, R69). -/
theorem decodeSel_packSel (a t g50 g2 z d : Bool) :
    decodeSel (packSel a t g50 g2 z d) =
      match a, t with
      | true, true => .fatal
      | false, false => if g50 then .idleSample else .idleWait
      | false, true => if g2 then (if z then .txShiftEnd else .txShift) else (if z then .txHoldEnd else .txHold)
      | true, false => if d then .ackDone else .ackWait := by
  revert a t g50 g2 z d
  decide

/-- Both flags set select FATAL (R73, R112). -/
theorem op_fatal {s : State} (ha : s.ackf = true) (ht : s.txf = true) : s.op = .fatal := by
  simp [State.op, State.selector, Registers.selector, decodeSel_packSel, ha, ht]

/-- IDLE off a multiple of 50 (R103). -/
theorem op_idleWait {s : State} (ha : s.ackf = false) (ht : s.txf = false) (h : s.tick % 50 ≠ 0) :
    s.op = .idleWait := by
  simp [State.op, State.selector, Registers.selector, decodeSel_packSel, ha, ht, gate50Bit_iff, h]

/-- IDLE at a multiple of 50 (R104). -/
theorem op_idleSample {s : State} (ha : s.ackf = false) (ht : s.txf = false) (h : s.tick % 50 = 0) :
    s.op = .idleSample := by
  simp [State.op, State.selector, Registers.selector, decodeSel_packSel, ha, ht, gate50Bit_iff, h]

/-- The zero test of a TRANSMIT tick, as the operation selected uses it (R96). -/
theorem op_transmit {s : State} (ha : s.ackf = false) (ht : s.txf = true) :
    s.op = if s.tick % 2 = 0 then (if s.frame.toNat ≤ 1 then .txShiftEnd else .txShift)
      else (if s.frame.toNat = 0 then .txHoldEnd else .txHold) := by
  have g := gate2Bit_iff s.tick
  have z := znBit_iff s.tick s.frame
  by_cases p : s.tick % 2 = 0 <;> simp only [p, if_true, if_false] at z ⊢ <;>
    simp [State.op, State.selector, Registers.selector, decodeSel_packSel, ha, ht, g, z, p]

/-- ACKNOWLEDGE reads the line (R110, R111). -/
theorem op_acknowledge {s : State} (ha : s.ackf = true) (ht : s.txf = false) :
    s.op = if s.dataIn then .ackDone else .ackWait := by
  simp [State.op, State.selector, Registers.selector, decodeSel_packSel, ha, ht]

end Sys2Proof.Machine
end

