-- ==== Sys2Proof/Laws/Step.lean ====
section
/-! SUPPORT. One step, said once: each theorem gives the whole next state for one case of spec/43_clock_divider.md R126,
and `step_cases` says there is no other case. -/

namespace Sys2Proof.Machine

/-- Reset (70_reset_and_hazards.md R149). -/
theorem step_reset {s : State} (h : s.rst = true) : step s = .next s.applyReset.redraw := by
  simp [step, tickStep, h]

/-- Halted (60_exceptions.md R133). -/
theorem step_halted {s : State} (hr : s.rst = false) (hf : s.fault = true) : step s = .next s.redraw := by
  simp [step, tickStep, hr, hf]

/-- Stuck: no enabled step (R136). -/
theorem step_stuck {s : State} (hr : s.rst = false) (hf : s.fault = false) (hq : s.sampleReq = true) :
    step s = .fault .stuckInAcquisition := by
  simp [step, tickStep, hr, hf, hq]

/-- A tick of a block that runs: the selected operation, then the clock and the counter if the tick completes (R126). -/
theorem step_running {s t : State} (hr : s.rst = false) (hf : s.fault = false) (hq : s.sampleReq = false)
    (he : exec s.op s = .next t) :
    step s = .next (if tickCompletes s.op s then t.finishTick else t).redraw := by
  simp [step, tickStep, hr, hf, hq, State.afterLogic, he]

/-- IDLE off a multiple of 50 (42_link_fsm.md R103). -/
theorem step_idleWait {s : State} (hr : s.rst = false) (hf : s.fault = false) (hq : s.sampleReq = false)
    (ha : s.ackf = false) (ht : s.txf = false) (h : s.tick % 50 ≠ 0) :
    step s = .next (s.setDir true).finishTick.redraw := by
  have o := op_idleWait ha ht h
  have e : exec s.op s = .next (s.setDir true) := by rw [o]; rfl
  rw [step_running hr hf hq e, o]
  rfl

/-- IDLE at a multiple of 50 with the sample there (R104). -/
theorem step_idleSample {s : State} (hr : s.rst = false) (hf : s.fault = false) (hq : s.sampleReq = false)
    (ha : s.ackf = false) (ht : s.txf = false) (h : s.tick % 50 = 0) (hv : s.rawValid = true) :
    step s = .next (s.requestSample.acceptSample s.rawIn).finishTick.redraw := by
  have o := op_idleSample ha ht h
  have e : exec s.op s = .next (s.requestSample.acceptSample s.rawIn) := by rw [o]; simp [exec, execIdleSample, hv]
  rw [step_running hr hf hq e, o]
  simp [tickCompletes, hv]

/-- IDLE at a multiple of 50 whose `Acquire()` never returns: the tick does not end (60_exceptions.md R136). -/
theorem step_idleStuck {s : State} (hr : s.rst = false) (hf : s.fault = false) (hq : s.sampleReq = false)
    (ha : s.ackf = false) (ht : s.txf = false) (h : s.tick % 50 = 0) (hv : s.rawValid = false) :
    step s = .next s.requestSample.redraw := by
  have o := op_idleSample ha ht h
  have e : exec s.op s = .next s.requestSample := by rw [o]; simp [exec, execIdleSample, hv]
  rw [step_running hr hf hq e, o]
  simp [tickCompletes, hv]

/-- An odd TRANSMIT tick with a nonzero frame (R106). -/
theorem step_txHold {s : State} (hr : s.rst = false) (hf : s.fault = false) (hq : s.sampleReq = false)
    (ha : s.ackf = false) (ht : s.txf = true) (hp : s.tick % 2 ≠ 0) (hz : s.frame.toNat ≠ 0) :
    step s = .next s.finishTick.redraw := by
  have o : s.op = .txHold := by rw [op_transmit ha ht, if_neg hp, if_neg hz]
  have e : exec s.op s = .next s := by rw [o]; rfl
  rw [step_running hr hf hq e, o]
  rfl

/-- An odd TRANSMIT tick with a zero frame (R109). -/
theorem step_txHoldEnd {s : State} (hr : s.rst = false) (hf : s.fault = false) (hq : s.sampleReq = false)
    (ha : s.ackf = false) (ht : s.txf = true) (hp : s.tick % 2 ≠ 0) (hz : s.frame.toNat = 0) :
    step s = .next (s.setPhase .acknowledge).finishTick.redraw := by
  have o : s.op = .txHoldEnd := by rw [op_transmit ha ht, if_neg hp, if_pos hz]
  have e : exec s.op s = .next (s.setPhase .acknowledge) := by rw [o]; rfl
  rw [step_running hr hf hq e, o]
  rfl

/-- An even TRANSMIT tick that leaves the frame nonzero (R107). -/
theorem step_txShift {s : State} (hr : s.rst = false) (hf : s.fault = false) (hq : s.sampleReq = false)
    (ha : s.ackf = false) (ht : s.txf = true) (hp : s.tick % 2 = 0) (hz : ¬s.frame.toNat ≤ 1) :
    step s = .next s.emit.shiftFrame.finishTick.redraw := by
  have o : s.op = .txShift := by rw [op_transmit ha ht, if_pos hp, if_neg hz]
  have e : exec s.op s = .next s.emit.shiftFrame := by rw [o]; rfl
  rw [step_running hr hf hq e, o]
  rfl

/-- An even TRANSMIT tick that leaves the frame zero (R108). -/
theorem step_txShiftEnd {s : State} (hr : s.rst = false) (hf : s.fault = false) (hq : s.sampleReq = false)
    (ha : s.ackf = false) (ht : s.txf = true) (hp : s.tick % 2 = 0) (hz : s.frame.toNat ≤ 1) :
    step s = .next (s.emit.shiftFrame.setPhase .acknowledge).finishTick.redraw := by
  have o : s.op = .txShiftEnd := by rw [op_transmit ha ht, if_pos hp, if_pos hz]
  have e : exec s.op s = .next (s.emit.shiftFrame.setPhase .acknowledge) := by rw [o]; rfl
  rw [step_running hr hf hq e, o]
  rfl

/-- An ACKNOWLEDGE tick with the line low (R110). -/
theorem step_ackWait {s : State} (hr : s.rst = false) (hf : s.fault = false) (hq : s.sampleReq = false)
    (ha : s.ackf = true) (ht : s.txf = false) (hd : s.dataIn = false) :
    step s = .next (s.setDir false).finishTick.redraw := by
  have o : s.op = .ackWait := by simp [op_acknowledge ha ht, hd]
  have e : exec s.op s = .next (s.setDir false) := by rw [o]; rfl
  rw [step_running hr hf hq e, o]
  rfl

/-- An ACKNOWLEDGE tick with the line high (R111). -/
theorem step_ackDone {s : State} (hr : s.rst = false) (hf : s.fault = false) (hq : s.sampleReq = false)
    (ha : s.ackf = true) (ht : s.txf = false) (hd : s.dataIn = true) :
    step s = .next ((s.setDir false).setPhase .idle).finishTick.redraw := by
  have o : s.op = .ackDone := by simp [op_acknowledge ha ht, hd]
  have e : exec s.op s = .next ((s.setDir false).setPhase .idle) := by rw [o]; rfl
  rw [step_running hr hf hq e, o]
  rfl

/-- Both flags set (R112, 60_exceptions.md R133). -/
theorem step_fatal {s : State} (hr : s.rst = false) (hf : s.fault = false) (hq : s.sampleReq = false)
    (ha : s.ackf = true) (ht : s.txf = true) : step s = .next (raiseFatal .stateCorrupt s).redraw := by
  have o := op_fatal ha ht
  have e : exec s.op s = .next (raiseFatal .stateCorrupt s) := by rw [o]; rfl
  rw [step_running hr hf hq e, o]
  rfl

/-- Everything a step can do: reset, halted, the nine operations, and the sampling tick that does not end (R126). -/
theorem step_cases {s t : State} (h : step s = .next t) :
    (s.rst = true ∧ t = s.applyReset.redraw) ∨
    (s.rst = false ∧ s.fault = true ∧ t = s.redraw) ∨
    (s.rst = false ∧ s.fault = false ∧ s.sampleReq = false ∧
      ((s.ackf = false ∧ s.txf = false ∧ s.tick % 50 ≠ 0 ∧ t = (s.setDir true).finishTick.redraw) ∨
       (s.ackf = false ∧ s.txf = false ∧ s.tick % 50 = 0 ∧ s.rawValid = true ∧
          t = (s.requestSample.acceptSample s.rawIn).finishTick.redraw) ∨
       (s.ackf = false ∧ s.txf = false ∧ s.tick % 50 = 0 ∧ s.rawValid = false ∧
          t = s.requestSample.redraw) ∨
       (s.ackf = false ∧ s.txf = true ∧ s.tick % 2 ≠ 0 ∧ s.frame.toNat ≠ 0 ∧ t = s.finishTick.redraw) ∨
       (s.ackf = false ∧ s.txf = true ∧ s.tick % 2 ≠ 0 ∧ s.frame.toNat = 0 ∧
          t = (s.setPhase .acknowledge).finishTick.redraw) ∨
       (s.ackf = false ∧ s.txf = true ∧ s.tick % 2 = 0 ∧ ¬s.frame.toNat ≤ 1 ∧
          t = s.emit.shiftFrame.finishTick.redraw) ∨
       (s.ackf = false ∧ s.txf = true ∧ s.tick % 2 = 0 ∧ s.frame.toNat ≤ 1 ∧
          t = (s.emit.shiftFrame.setPhase .acknowledge).finishTick.redraw) ∨
       (s.ackf = true ∧ s.txf = false ∧ s.dataIn = false ∧ t = (s.setDir false).finishTick.redraw) ∨
       (s.ackf = true ∧ s.txf = false ∧ s.dataIn = true ∧
          t = ((s.setDir false).setPhase .idle).finishTick.redraw) ∨
       (s.ackf = true ∧ s.txf = true ∧ t = (raiseFatal .stateCorrupt s).redraw))) := by
  have inj : ∀ {u v : State}, (Host.Outcome.next u : Host.Outcome State Fault Refusal) = .next v → v = u := by
    intro u v e
    injection e with e
    exact e.symm
  cases hr : s.rst
  · refine .inr ?_
    cases hf : s.fault
    · cases hq : s.sampleReq
      case true => exact nomatch (step_stuck hr hf hq) ▸ h
      refine .inr ⟨rfl, rfl, rfl, ?_⟩
      cases ha : s.ackf <;> cases ht : s.txf
      · by_cases hg : s.tick % 50 = 0
        · cases hv : s.rawValid
          · exact .inr (.inr (.inl ⟨rfl, rfl, hg, rfl, inj ((step_idleStuck hr hf hq ha ht hg hv) ▸ h)⟩))
          · exact .inr (.inl ⟨rfl, rfl, hg, rfl, inj ((step_idleSample hr hf hq ha ht hg hv) ▸ h)⟩)
        · exact .inl ⟨rfl, rfl, hg, inj ((step_idleWait hr hf hq ha ht hg) ▸ h)⟩
      · refine .inr (.inr (.inr ?_))
        by_cases hp : s.tick % 2 = 0
        · refine .inr (.inr ?_)
          by_cases hz : s.frame.toNat ≤ 1
          · exact .inr (.inl ⟨rfl, rfl, hp, hz, inj ((step_txShiftEnd hr hf hq ha ht hp hz) ▸ h)⟩)
          · exact .inl ⟨rfl, rfl, hp, hz, inj ((step_txShift hr hf hq ha ht hp hz) ▸ h)⟩
        · by_cases hz : s.frame.toNat = 0
          · exact .inr (.inl ⟨rfl, rfl, hp, hz, inj ((step_txHoldEnd hr hf hq ha ht hp hz) ▸ h)⟩)
          · exact .inl ⟨rfl, rfl, hp, hz, inj ((step_txHold hr hf hq ha ht hp hz) ▸ h)⟩
      · refine .inr (.inr (.inr (.inr (.inr (.inr (.inr ?_))))))
        cases hd : s.dataIn
        · exact .inl ⟨rfl, rfl, rfl, inj ((step_ackWait hr hf hq ha ht hd) ▸ h)⟩
        · exact .inr (.inl ⟨rfl, rfl, rfl, inj ((step_ackDone hr hf hq ha ht hd) ▸ h)⟩)
      · exact .inr (.inr (.inr (.inr (.inr (.inr (.inr (.inr (.inr
          ⟨rfl, rfl, inj ((step_fatal hr hf hq ha ht) ▸ h)⟩))))))))
    · exact .inl ⟨rfl, rfl, inj ((step_halted hr hf) ▸ h)⟩
  · exact .inl ⟨rfl, inj ((step_reset hr) ▸ h)⟩

/-- No input outlives its step: whatever the inputs of a step were, the next ones are a fresh draw (00_scope.md R10,
10_state.md R31; log entry 3). -/
theorem step_keeps_no_input {s t : State} (h : step s = .next t) : t.toInputs = inputsAt s.draws := by
  rcases step_cases h with ⟨_, rfl⟩ | ⟨_, _, rfl⟩ | ⟨_, _, _, c⟩
  · simp
  · simp
  · rcases c with ⟨_, _, _, rfl⟩ | ⟨_, _, _, _, rfl⟩ | ⟨_, _, _, _, rfl⟩ | ⟨_, _, _, _, rfl⟩ | ⟨_, _, _, _, rfl⟩ |
      ⟨_, _, _, _, rfl⟩ | ⟨_, _, _, _, rfl⟩ | ⟨_, _, _, rfl⟩ | ⟨_, _, _, rfl⟩ | ⟨_, _, rfl⟩ <;> simp

/-- No step reads the answer of a datapath function executed on its own: it works out the gates, the zero condition and
the angle anew (R31; log entry 6). -/
theorem step_reads_no_answer {s t : State} (h : step s = .next t) (r : FnOut) :
    ∃ u, step (s.answer r) = .next u ∧ u.regs = t.regs ∧ u.toInputs = t.toInputs ∧ u.params = t.params := by
  rcases step_cases h with ⟨hr, rfl⟩ | ⟨hr, hf, rfl⟩ | ⟨hr, hf, hq, c⟩
  · exact ⟨_, step_reset hr, rfl, rfl, rfl⟩
  · exact ⟨_, step_halted hr hf, rfl, rfl, rfl⟩
  · rcases c with ⟨ha, ht, g, rfl⟩ | ⟨ha, ht, g, v, rfl⟩ | ⟨ha, ht, g, v, rfl⟩ | ⟨ha, ht, p, z, rfl⟩ |
      ⟨ha, ht, p, z, rfl⟩ | ⟨ha, ht, p, z, rfl⟩ | ⟨ha, ht, p, z, rfl⟩ | ⟨ha, ht, d, rfl⟩ | ⟨ha, ht, d, rfl⟩ | ⟨ha, ht, rfl⟩
    · exact ⟨_, step_idleWait hr hf hq ha ht g, rfl, rfl, rfl⟩
    · exact ⟨_, step_idleSample hr hf hq ha ht g v, rfl, rfl, rfl⟩
    · exact ⟨_, step_idleStuck hr hf hq ha ht g v, rfl, rfl, rfl⟩
    · exact ⟨_, step_txHold hr hf hq ha ht p z, rfl, rfl, rfl⟩
    · exact ⟨_, step_txHoldEnd hr hf hq ha ht p z, rfl, rfl, rfl⟩
    · exact ⟨_, step_txShift hr hf hq ha ht p z, rfl, rfl, rfl⟩
    · exact ⟨_, step_txShiftEnd hr hf hq ha ht p z, rfl, rfl, rfl⟩
    · exact ⟨_, step_ackWait hr hf hq ha ht d, rfl, rfl, rfl⟩
    · exact ⟨_, step_ackDone hr hf hq ha ht d, rfl, rfl, rfl⟩
    · exact ⟨_, step_fatal hr hf hq ha ht, rfl, rfl, rfl⟩

end Sys2Proof.Machine
end

