-- ==== Sys2Proof/Machine/Script.lean ====
section
/-! DEFINITION. The stimulus script of spec/30_encoding.md R77: what its lines do to the machine. -/

namespace Sys2Proof.Machine

/-- A state element with a value, as `SET` and `EXPECT` write it (R77). -/
inductive Elem where
  | txf (b : Bool)
  | ackf (b : Bool)
  | frame (f : Frame)
  | tick (n : Nat)
  | clk (b : Bool)
  | dout (d : Byte)
  | dir (b : Bool)
  | raw (p : Sample)
  | angle (a : Byte)
  | fault (b : Bool)
  deriving DecidableEq, Repr

/-- `SET`: force an element (R77). -/
def State.force (s : State) : Elem → State
  | .txf b => { s with txf := b }
  | .ackf b => { s with ackf := b }
  | .frame f => { s with frame := f }
  | .tick n => { s with tick := n }
  | .clk b => { s with clk := b }
  | .dout d => { s with dout := d }
  | .dir b => { s with dir := b }
  | .raw p => { s with raw := p }
  | .angle a => { s with angle := a }
  | .fault b => { s with fault := b }

/-- `EXPECT`: does an element have its value (R77). -/
def State.shows (s : State) : Elem → Bool
  | .txf b => s.txf == b
  | .ackf b => s.ackf == b
  | .frame f => s.frame == f
  | .tick n => s.tick == n
  | .clk b => s.clk == b
  | .dout d => s.dout == d
  | .dir b => s.dir == b
  | .raw p => s.raw == p
  | .angle a => s.angle == a
  | .fault b => s.fault == b

/-- `raw=<pattern>` or `raw=never` (R77). -/
inductive RawAnswer where
  | pattern (p : Sample)
  | never
  deriving DecidableEq, Repr

/-- A line of a script (R77). An omitted input asserts that the tick does not read it. -/
inductive Line where
  | reset
  | set (e : Elem)
  | tick (raw : Option RawAnswer) (din : Option Bool) (times : Nat)
  | expect (es : List Elem)
  deriving DecidableEq, Repr

/-- How a script ends. -/
inductive ScriptEnd where
  /-- Every line was performed. -/
  | done (s : State)
  /-- A tick does not end: `Acquire()` never returns (60_exceptions.md R136). -/
  | stuck (s : State)
  /-- A tick reads an input that its line omits. -/
  | unanswered (s : State)
  /-- An `EXPECT` does not hold. -/
  | unexpected (s : State)
  /-- The machine stopped with a fault or a refusal. -/
  | stopped (s : State)
  deriving DecidableEq, Repr

/-- The input levels a tick line gives. -/
def scriptInputs (raw : Option RawAnswer) (din : Option Bool) : Inputs :=
  match raw with
  | some (.pattern p) => ⟨false, p, true, din.getD false⟩
  | some .never => ⟨false, 0, false, din.getD false⟩
  | none => ⟨false, 0, false, din.getD false⟩

/-- Does the coming tick ask for a sample (20_memory.md R48). -/
def State.asksSample (s : State) : Bool :=
  !s.fault && decide (s.op = .idleSample)

/-- Does the coming tick read the line (20_memory.md R54). -/
def State.asksLine (s : State) : Bool :=
  !s.fault && (decide (s.op = .ackWait) || decide (s.op = .ackDone))

/-- One tick of a script. -/
def scriptTick (raw : Option RawAnswer) (din : Option Bool) (s : State) : ScriptEnd :=
  let t := s.withInputs (scriptInputs raw din)
  if (t.asksSample && raw.isNone) || (t.asksLine && din.isNone) then .unanswered s
  else
    match step t with
    | .next u => if t.asksSample && decide (raw = some .never) then .stuck u else .done u
    | .fault _ => .stopped s
    | .refused _ => .stopped s

/-- A tick line, `times` ticks (R77). -/
def scriptTicks (raw : Option RawAnswer) (din : Option Bool) : Nat → State → ScriptEnd
  | 0, s => .done s
  | n + 1, s =>
    match scriptTick raw din s with
    | .done t => scriptTicks raw din n t
    | .stuck t => .stuck t
    | .unanswered t => .unanswered t
    | .unexpected t => .unexpected t
    | .stopped t => .stopped t

/-- One line. -/
def runLine (l : Line) (s : State) : ScriptEnd :=
  match l with
  | .reset => .done s.applyReset
  | .set e => .done (s.force e)
  | .tick raw din times => scriptTicks raw din times s
  | .expect es => if es.all s.shows then .done s else .unexpected s

/-- A whole script. -/
def runScript : List Line → State → ScriptEnd
  | [], s => .done s
  | l :: ls, s =>
    match runLine l s with
    | .done t => runScript ls t
    | .stuck t => .stuck t
    | .unanswered t => .unanswered t
    | .unexpected t => .unexpected t
    | .stopped t => .stopped t

end Sys2Proof.Machine
end

