-- ==== Sys2Proof/Tests/Slice0.lean ====
section
/-! SUPPORT. Tests of the author's own: ill-formed terms, words written out from spec/30_encoding.md R70, vectors of
spec/95_test_vectors.md (part 2 unless a comment says otherwise), and for every statement with hypotheses a witness that
meets them. -/

namespace Sys2Proof.Tests

open Sys2Proof Sys2Proof.Machine

/-! ## Helpers -/

/-- A state tuple in the order of spec/95_test_vectors.md: `ACKF TXF | FRAME | TICK | CLK | DOUT | DIR | RAW | ANGLE |
FAULT`. -/
def tuple (flags : BitVec 2) (frame : Frame) (tick : Nat) (clk : BitVec 1) (dout : Byte) (dir : BitVec 1)
    (raw : Sample) (angle : Byte) (fault : BitVec 1) : Registers :=
  ⟨flags.getLsbD 0, flags.getLsbD 1, frame, tick, clk.getLsbD 0, dout, dir.getLsbD 0, raw, angle,
    fault.getLsbD 0, false⟩

/-- A state with given registers and input levels, W = 32 unless given. -/
def load (r : Registers) (i : Inputs) (w : Nat := 32) : State :=
  State.withInputs
    { State.resetWith ⟨w, 0⟩ with
      txf := r.txf, ackf := r.ackf, frame := r.frame, tick := r.tick, clk := r.clk, dout := r.dout, dir := r.dir,
      raw := r.raw, angle := r.angle, fault := r.fault, sampleReq := r.sampleReq } i

/-- No reset, no sample, the line low. -/
def quiet : Inputs := ⟨false, 0x0000, false, false⟩
/-- A sample is there. -/
def sample (p : Sample) : Inputs := ⟨false, p, true, false⟩
/-- The line is high. -/
def lineHigh : Inputs := ⟨false, 0x0000, false, true⟩
/-- `rst` is asserted. -/
def resetting : Inputs := ⟨true, 0x0000, false, false⟩

/-- The registers one step later. -/
def after (s : State) : Option Registers :=
  match step s with
  | .next t => some t.regs
  | .fault _ => none
  | .refused _ => none

/-- The state one step later. -/
def nextOf (s : State) : State :=
  match step s with
  | .next t => t
  | .fault _ => s
  | .refused _ => s

/-- The registers after one instruction executed on its own. -/
def execRegs (i : Instr) (s : State) : Option Registers :=
  match exec i s with
  | .next t => some t.regs
  | .fault _ => none
  | .refused _ => none

/-- What a datapath function executed on its own answers. -/
def answerOf (i : Instr) (s : State) : Option FnOut :=
  match exec i s with
  | .next t => some t.fnOut
  | .fault _ => none
  | .refused _ => none

/-- The registers of the state after reset, with given frame, counter and angle. -/
def small (frame : Frame) (tick : Nat) (angle : Byte) : State :=
  load (tuple 0b00 frame tick 0 0x00 0 0x0000 angle 0) quiet

/-! ## Well-formedness: what each check refuses -/

theorem test_toangle_above_the_range_is_ill_formed : (Instr.toangle 6).wellFormed = false := by decide +kernel
theorem test_toangle_below_the_range_is_ill_formed : (Instr.toangle (-6)).wellFormed = false := by decide +kernel
theorem test_toangle_ends_are_well_formed :
    (Instr.toangle (-5)).wellFormed = true ∧ (Instr.toangle 5).wellFormed = true := by decide +kernel
/-- R72: G50 = 1 with G2 = 0. -/
theorem test_impossible_selector_is_ill_formed : selReachable 0b001000 = false := by decide
theorem test_narrow_counter_is_ill_formed : Params.wellFormed ⟨5, 0⟩ = false := by decide
theorem test_large_start_count_is_ill_formed : Params.wellFormed ⟨6, 64⟩ = false := by decide
theorem test_default_params_are_well_formed : Params.wellFormed ⟨32, 0⟩ = true := by decide

/-! ## Decoding: a word written out for every tick operation (R70), in both forms -/

theorem test_decode_idleWait : decode [0b00000111] = .ok .idleWait [] := by decide
theorem test_decode_idleSample : decode [0b00001110] = .ok .idleSample [] := by decide
theorem test_decode_txHold : decode [0b00011001] = .ok .txHold [] := by decide
theorem test_decode_txHoldEnd : decode [0b00010010] = .ok .txHoldEnd [] := by decide
theorem test_decode_txShift : decode [0b00010101] = .ok .txShift [] := by decide
theorem test_decode_txShiftEnd : decode [0b00010110] = .ok .txShiftEnd [] := by decide
theorem test_decode_ackWait : decode [0b00101110] = .ok .ackWait [] := by decide
theorem test_decode_ackDone : decode [0b00101111] = .ok .ackDone [] := by decide
theorem test_decode_fatal : decode [0b00111110] = .ok .fatal [] := by decide
theorem test_decode_takes_one_byte : decode [0b00100001, 0b00110000] = .ok .ackDone [0b00110000] := by decide
theorem test_decode_rejects_high_bits :
    decode [0b01001110] = .rejected .highBits ∧ decode [0b10001110] = .rejected .highBits := by decide
theorem test_decode_rejects_nothing : decode [] = .rejected .noByte := by decide
theorem test_table_word : decodeTableWord 8 0x16 = some .txShiftEnd ∧ decodeTableWord 0 0 = none ∧
    decodeTableWord 16 0x16 = none := by decide
/-- R71: a datapath function has no word. -/
theorem test_datapath_functions_have_no_word :
    encode (.rawcat 1 2) = none ∧ encode (.tovolt 1) = none ∧ encode (.toangle 1) = none ∧ encode (.v2a 1) = none ∧
      encode .frload = none ∧ encode .fremit = none ∧ encode .frshift = none ∧ encode .frzero = none ∧
      encode .gate50 = none ∧ encode .gate2 = none ∧ encode .clkupd = none ∧ encode .tickinc = none := by
  decide +kernel
/-- The line of vectors 2.3 for ACKF TXF G50 = 0 1 1. -/
theorem test_selector_row_011 : [0b011000, 0b011010, 0b011100, 0b011110].map decodeSel =
    [.txHold, .txHoldEnd, .txShift, .txShiftEnd] := by decide

/-! ## Whole ticks (2.4) -/

theorem test_v1 : after (load (tuple 0b00 0x000 21 0 0xFE 0 0x0000 75 0) quiet) =
    some (tuple 0b00 0x000 22 1 0xFE 1 0x0000 75 0) := by decide
theorem test_v2 : after (load (tuple 0b00 0x000 49 0 0xFE 1 0x0000 75 0) quiet) =
    some (tuple 0b00 0x000 50 1 0xFE 1 0x0000 75 0) := by decide
theorem test_v5 : after (load (tuple 0b00 0x000 100 1 0xFE 0 0x8000 150 0) (sample 0x7FFF)) =
    some (tuple 0b01 0x1FF 101 0 0xFE 1 0x7FFF 0 0) := by decide
theorem test_v6 : after (load (tuple 0b00 0x000 4294967250 1 0xFE 1 0x0000 0 0) (sample 0xFFFF)) =
    some (tuple 0b01 0x169 4294967251 0 0xFE 1 0xFFFF 75 0) := by decide
theorem test_v8 : after (load (tuple 0b01 0x001 17 0 0xFD 1 0x0000 75 0) quiet) =
    some (tuple 0b01 0x001 18 1 0xFD 1 0x0000 75 0) := by decide
theorem test_v9 : after (load (tuple 0b01 0x169 2 1 0x00 1 0x0000 75 0) quiet) =
    some (tuple 0b01 0x0B4 3 0 0x96 1 0x0000 75 0) := by decide
theorem test_v11 : after (load (tuple 0b01 0x1FF 100 1 0xFE 1 0x0000 0 0) quiet) =
    some (tuple 0b01 0x0FF 101 0 0x00 1 0x0000 0 0) := by decide
theorem test_v13 : after (load (tuple 0b01 0x001 18 1 0xFD 1 0x0000 75 0) quiet) =
    some (tuple 0b10 0x000 19 0 0xFE 1 0x0000 75 0) := by decide
theorem test_v15 : after (load (tuple 0b01 0x000 8 1 0x00 1 0x0000 0 0) quiet) =
    some (tuple 0b10 0x000 9 0 0xFF 1 0x0000 0 0) := by decide
theorem test_v16 : after (load (tuple 0b01 0x000 7 0 0x00 1 0x0000 0 0) quiet) =
    some (tuple 0b10 0x000 8 1 0x00 1 0x0000 0 0) := by decide
theorem test_v17 : after (load (tuple 0b10 0x000 19 0 0xFE 1 0x0000 75 0) quiet) =
    some (tuple 0b10 0x000 20 1 0xFE 0 0x0000 75 0) := by decide
theorem test_v19 : after (load (tuple 0b10 0x000 4294967295 0 0xFE 0 0x0000 0 0) quiet) =
    some (tuple 0b10 0x000 0 1 0xFE 0 0x0000 0 0) := by decide
theorem test_v20 : after (load (tuple 0b10 0x000 19 0 0xFE 1 0x0000 75 0) lineHigh) =
    some (tuple 0b00 0x000 20 1 0xFE 0 0x0000 75 0) := by decide
theorem test_v21 : after (load (tuple 0b10 0x000 50 1 0xFE 0 0x0000 75 0) lineHigh) =
    some (tuple 0b00 0x000 51 0 0xFE 0 0x0000 75 0) := by decide
theorem test_v23 : after (load (tuple 0b11 0x05A 33 0 0x4B 1 0x0000 0 0) quiet) =
    some (tuple 0b11 0x05A 33 0 0x4B 1 0x0000 0 1) := by decide
theorem test_v25 : after (load (tuple 0b00 0x000 50 0 0x00 0 0x0000 0 1) (sample 0x0000)) =
    some (tuple 0b00 0x000 50 0 0x00 0 0x0000 0 1) := by decide
/-- The stuck tick after the table: only `DIR` (and the request, R52) change. -/
theorem test_stuck : after (load (tuple 0b00 0x000 0 0 0x00 0 0x0000 0 0) quiet) =
    some { tuple 0b00 0x000 0 0 0x00 1 0x0000 0 0 with sampleReq := true } := by decide
/-- R136: then no step is enabled, and reset still is. -/
theorem test_stuck_has_no_further_step :
    step ((nextOf (small 0x000 50 0)).withInputs (sample 1)) = .fault .stuckInAcquisition ∧
    after ((nextOf (small 0x000 50 0)).withInputs resetting) = some (tuple 0b00 0x000 0 0 0x00 0 0x0000 0 0) :=
  ⟨rfl, by decide⟩
/-- R28, R52: `sample_req` pulses in a sampling tick that is answered. -/
theorem test_sample_req_pulses : ((small 0x000 50 0).withInputs (sample 1)).portTrace.map (fun o => o.sampleReq) =
    [true, false, false, false] := by decide
/-- 70_reset_and_hazards.md R149, R152, from mid-frame. -/
theorem test_reset_in_mid_frame : after (load (tuple 0b01 0x05A 5 0 0x4B 1 0x0000 75 0) resetting) =
    some (tuple 0b00 0x000 0 0 0x00 0 0x0000 0 0) := by decide
/-- A tick of program P5 (W = 8): the wrap in TRANSMIT. -/
theorem test_p5_wrap : after (load (tuple 0b01 0x05A 255 0 0x4B 1 0x0000 75 0) quiet 8) =
    some (tuple 0b01 0x05A 0 1 0x4B 1 0x0000 75 0) := by decide

/-! ## The state logic alone: the clock and the counter do not move in it (R57, R126) -/

theorem test_exec_idleWait : execRegs .idleWait (small 0x000 21 0) =
    some (tuple 0b00 0x000 21 0 0x00 1 0x0000 0 0) := by decide
theorem test_exec_fatal : execRegs .fatal (small 0x000 21 0) =
    some (tuple 0b00 0x000 21 0 0x00 0 0x0000 0 1) := by decide

/-! ## The datapath functions (2.1, 2.2, 2.5) -/

theorem test_rawcat_low_byte_is_low :
    answerOf (.rawcat 0x34 0x12) (small 0 0 0) = some (.sample 4660) := by decide
theorem test_rawcat_negative : answerOf (.rawcat 0x4B 0xFE) (small 0 0 0) = some (.sample (-437)) := by decide
theorem test_tovolt_half : answerOf (.tovolt 0x4000) (small 0 0 0) = some (.volts (5 / 2)) := by decide +kernel
theorem test_tovolt_lowest : answerOf (.tovolt 0x8000) (small 0 0 0) = some (.volts (-5)) := by decide +kernel
theorem test_toangle_truncates : answerOf (.toangle (5 / 2)) (small 0 0 0) = some (.angle 37) := by decide +kernel
theorem test_toangle_ends : answerOf (.toangle (-5)) (small 0 0 0) = some (.angle 150) ∧
    answerOf (.toangle 5) (small 0 0 0) = some (.angle 0) := by decide +kernel
theorem test_v2a_at_128 : answerOf (.v2a 0xA58B) (small 0 0 0) = some (.angle 128) ∧
    answerOf (.v2a 0xA58C) (small 0 0 0) = some (.angle 127) := by decide
theorem test_v2a_ends : answerOf (.v2a 0x8000) (small 0 0 0) = some (.angle 150) ∧
    answerOf (.v2a 0x7FFF) (small 0 0 0) = some (.angle 0) := by decide
theorem test_frload_75 : execRegs .frload (small 0x000 0 0x4B) =
    some (tuple 0b00 0x169 0 0 0x00 0 0x0000 0x4B 0) := by decide
theorem test_frload_255 : execRegs .frload (small 0x1FF 0 0xFF) =
    some (tuple 0b00 0x001 0 0 0x00 0 0x0000 0xFF 0) := by decide
theorem test_fremit_ignores_bit_8 : execRegs .fremit (small 0x169 0 0) =
    some (tuple 0b00 0x169 0 0 0x96 0 0x0000 0 0) := by decide
theorem test_fremit_bit_8_alone : execRegs .fremit (small 0x100 0 0) =
    some (tuple 0b00 0x100 0 0 0xFF 0 0x0000 0 0) := by decide
theorem test_frshift_zero_enters : execRegs .frshift (small 0x1FF 0 0) =
    some (tuple 0b00 0x0FF 0 0 0x00 0 0x0000 0 0) := by decide
theorem test_frshift_last : execRegs .frshift (small 0x001 0 0) =
    some (tuple 0b00 0x000 0 0 0x00 0 0x0000 0 0) := by decide
theorem test_frzero_bit_8_counts : answerOf .frzero (small 0x100 0 0) = some (.bit false) := by decide
theorem test_frzero_zero : answerOf .frzero (small 0x000 0 0) = some (.bit true) := by decide
theorem test_gate50_multiple : answerOf .gate50 (small 0 4294967250 0) = some (.bit true) := by decide
theorem test_gate50_even_only : answerOf .gate50 (small 0 2 0) = some (.bit false) := by decide
theorem test_gate2_odd : answerOf .gate2 (small 0 25 0) = some (.bit false) := by decide
theorem test_gate2_even : answerOf .gate2 (small 0 2 0) = some (.bit true) := by decide
theorem test_clkupd_odd : execRegs .clkupd (small 0 19 0) =
    some (tuple 0b00 0x000 19 1 0x00 0 0x0000 0 0) := by decide
theorem test_tickinc_wraps : execRegs .tickinc (small 0 4294967295 0) =
    some (tuple 0b00 0x000 0 0 0x00 0 0x0000 0 0) := by decide
theorem test_tickinc_counts : execRegs .tickinc (small 0 1000 0) =
    some (tuple 0b00 0x000 1001 0 0x00 0 0x0000 0 0) := by decide
/-- ZN, the rows of 2.2. -/
theorem test_zn : znBit 2 0x001 = true ∧ znBit 1 0x001 = false ∧ znBit 2 0x002 = false ∧ znBit 2 0x100 = false ∧
    znBit 1 0x000 = true ∧ znBit 2 0x000 = true := by decide

/-! ## The rest: placing, invariants' reach, the acquisition, the ports, a script line -/

/-- A word that no counter gives (R72) still runs its row. -/
theorem test_place_impossible_word : (State.reset.withFetchWord 8 0b001000).op = .idleSample ∧
    (State.reset.withFetchWord 8 0b011000).op = .txHold := by decide
set_option synthInstance.maxSize 1000 in
/-- The invariant refuses states no run reaches: both flags, a loaded frame in IDLE, a halted block. -/
theorem test_invariant_refuses : ¬(load (tuple 0b11 0x000 0 0 0x00 0 0x0000 0 0) quiet).Inv ∧
    ¬(load (tuple 0b00 0x001 1 0 0x00 1 0x0000 0 0) quiet).Inv ∧
    ¬(load (tuple 0b00 0x000 0 0 0x00 0 0x0000 0 1) quiet).Inv := by decide
/-- `configure()` is the first six actions of `Acquire()` (20_memory.md R45, R46). -/
theorem test_acquire_runs_configure_first : acquireActions.take 6 = configureActions := by decide
theorem test_ports : (load (tuple 0b10 0x000 20 1 0xFD 0 0x0000 75 0) quiet).outputs.dataOut = true ∧
    (load (tuple 0b10 0x000 20 1 0xFD 0 0x0000 75 0) quiet).outputs.dataOe = false ∧
    (load (tuple 0b10 0x000 20 1 0xFD 0 0x0000 75 0) quiet).outputs.dbgDoutHigh = 0b1111110 := by decide
/-- A script tick that reads an input its line omits (30_encoding.md R77). -/
theorem test_script_omitted_input :
    (match runLine (.tick none none 1) State.reset with | .unanswered _ => true | _ => false) = true := by decide

/-! ## Witnesses: a state that meets the hypotheses of each statement that has some -/

/-- IDLE at a counter value. -/
def idleAt (tick : Nat) (i : Inputs) : State := load (tuple 0b00 0x000 tick (BitVec.ofNat 1 (tick + 1)) 0xFE 1 0x0000 75 0) i
/-- TRANSMIT at a counter value with a frame. -/
def sendAt (frame : Frame) (tick : Nat) (i : Inputs) : State :=
  load (tuple 0b01 frame tick (BitVec.ofNat 1 (tick + 1)) 0x00 1 0x0000 75 0) i
/-- ACKNOWLEDGE at a counter value. -/
def ackAt (tick : Nat) (i : Inputs) : State := load (tuple 0b10 0x000 tick (BitVec.ofNat 1 (tick + 1)) 0xFE 1 0x0000 75 0) i
/-- Both flags set. -/
def corrupt (i : Inputs) : State := load (tuple 0b11 0x05A 33 0 0x4B 1 0x0000 0 0) i
/-- Halted. -/
def halted (i : Inputs) : State := load (tuple 0b11 0x05A 33 0 0x4B 1 0x0000 0 1) i

theorem witness_IdleWaitTakesTheLine : (idleAt 49 quiet).Running ∧ (idleAt 49 quiet).InIdle ∧
    (idleAt 49 quiet).tick % 50 ≠ 0 ∧ (idleAt 51 quiet).Running ∧ (idleAt 51 quiet).InIdle ∧
    (idleAt 51 quiet).tick % 50 ≠ 0 := by decide
theorem witness_IdleSampleLoadsTheFrame : (idleAt 50 (sample 0x8000)).Running ∧ (idleAt 50 (sample 0x8000)).InIdle ∧
    (idleAt 50 (sample 0x8000)).tick % 50 = 0 ∧ (idleAt 50 (sample 0x8000)).rawValid = true ∧
    (150 : Byte) = BitVec.ofInt 8 ((2457600 - 75 * (idleAt 50 (sample 0x8000)).rawIn.toInt) / 32768) := by decide
/-- A sampling tick without an answer, one with an answer, and a tick that does not sample. -/
theorem witness_SampleRequestStandsUntilTheSampleIsIn : (idleAt 50 quiet).Running ∧ (idleAt 50 quiet).InIdle ∧
    (idleAt 50 quiet).tick % 50 = 0 ∧ (idleAt 50 quiet).rawValid = false ∧ (idleAt 50 (sample 1)).Running ∧
    (idleAt 50 (sample 1)).InIdle ∧ (idleAt 50 (sample 1)).tick % 50 = 0 ∧ (idleAt 50 (sample 1)).rawValid = true ∧
    (ackAt 19 quiet).op ≠ .idleSample ∧ (ackAt 19 quiet).portTrace.length = 3 := by decide
theorem witness_TxHoldChangesNothing : (sendAt 0x001 1 quiet).Running ∧ (sendAt 0x001 1 quiet).InTransmit ∧
    (sendAt 0x001 1 quiet).tick % 2 = 1 ∧ (sendAt 0x001 1 quiet).frame ≠ 0 := by decide
theorem witness_TxShiftEmitsThenShifts : (sendAt 0x002 2 quiet).Running ∧ (sendAt 0x002 2 quiet).InTransmit ∧
    (sendAt 0x002 2 quiet).tick % 2 = 0 ∧ (sendAt 0x002 2 quiet).frame.toNat / 2 ≠ 0 := by decide
theorem witness_TxShiftEndEntersAcknowledge : ∀ f ∈ [(0x000 : Frame), 0x001], (sendAt f 2 quiet).Running ∧
    (sendAt f 2 quiet).InTransmit ∧ (sendAt f 2 quiet).tick % 2 = 0 ∧ (sendAt f 2 quiet).frame.toNat / 2 = 0 := by decide
theorem witness_TxHoldEndEntersAcknowledge : (sendAt 0x000 7 quiet).Running ∧ (sendAt 0x000 7 quiet).InTransmit ∧
    (sendAt 0x000 7 quiet).tick % 2 = 1 ∧ (sendAt 0x000 7 quiet).frame = 0 := by decide
theorem witness_AckWaitReleasesTheLine : (ackAt 19 quiet).Running ∧ (ackAt 19 quiet).InAcknowledge ∧
    (ackAt 19 quiet).dataIn = false := by decide
theorem witness_AckDoneReturnsToIdle : (ackAt 50 lineHigh).Running ∧ (ackAt 50 lineHigh).InAcknowledge ∧
    (ackAt 50 lineHigh).dataIn = true := by decide
theorem witness_FatalSetsFaultAndHalts : (corrupt quiet).Running ∧ (corrupt quiet).ackf = true ∧
    (corrupt quiet).txf = true ∧ NoReset [quiet, sample 0x7FFF, lineHigh] := by decide
theorem witness_ToangleTruncatesTowardZero : (-5 : Rat) ≤ -5 ∧ (-5 : Rat) ≤ 5 ∧ (5 : Rat) ≤ 5 := by decide +kernel
theorem witness_ToangleOutsideTheRangeStillAnswers : ((-6 : Rat) < -5 ∨ (5 : Rat) < -6) ∧
    ((6 : Rat) < -5 ∨ (5 : Rat) < 6) := by decide +kernel
theorem witness_TickincWrapsSilently : (idleAt 4294967295 quiet).tick < 2 ^ (idleAt 4294967295 quiet).params.tickWidth ∧
    (idleAt 4294967295 quiet).tick + 1 = 2 ^ (idleAt 4294967295 quiet).params.tickWidth ∧
    (idleAt 4294967294 quiet).tick + 1 ≠ 2 ^ (idleAt 4294967294 quiet).params.tickWidth ∧
    exec .tickinc (idleAt 4294967295 quiet) = .next (idleAt 4294967295 quiet).tickInc :=
  ⟨by decide, by decide, by decide, rfl⟩
/-- A completed tick, a faulting one and a stuck one. -/
theorem witness_ClkupdWritesTheParity : (ackAt 19 quiet).rst = false ∧ (ackAt 19 quiet).Completes ∧
    (corrupt quiet).rst = false ∧ ¬(corrupt quiet).Completes ∧ (idleAt 50 quiet).rst = false ∧
    ¬(idleAt 50 quiet).Completes := by decide
theorem witness_DecodeInvertsEncode : Instr.wellFormed .ackWait = true ∧
    encodeWith 0b111111 .ackWait = some [0b00101110] ∧ decode ([0b00101110] ++ [0xFF]) = .ok .ackWait [0xFF] := by decide
theorem witness_StepRunsTheSelectedOperation :
    (ackAt 19 lineHigh).Running ∧ decode [(ackAt 19 lineHigh).selector.setWidth 8] = .ok .ackDone [] ∧
    (ackAt 19 lineHigh).Completes ∧ (corrupt quiet).Running ∧ ¬(corrupt quiet).Completes ∧
    (idleAt 50 quiet).Running ∧ ¬(idleAt 50 quiet).Completes := by decide
theorem witness_StepRunsTheSelectedOperation_exec :
    exec .ackDone (ackAt 19 lineHigh) = .next (((ackAt 19 lineHigh).setDir false).setPhase .idle) := rfl
theorem witness_PlacedWordIsSelected : 63 < 64 ∧ decodeTableWord 8 63 = some .fatal ∧
    decodeTableWord 8 0 = some .idleWait := by decide
/-- A block that ticks, a halted one, a stuck one, a resetting one; and one tick of each outcome. -/
theorem witness_StepIsTheTickStepOfTheSpec : (ackAt 19 quiet).rst = false ∧ (ackAt 19 quiet).sampleReq = false ∧
    (halted quiet).rst = false ∧ (halted quiet).fault = true ∧ (nextOf (idleAt 50 quiet)).fault = false ∧
    (nextOf (idleAt 50 quiet)).sampleReq = true ∧ quiet.rst = false ∧ (halted resetting).rst = true ∧
    [ackAt 19 quiet, halted quiet, corrupt quiet, idleAt 50 quiet].map
      (fun s => (tickBlock s.params s.toInputs s.toRegisters).outcome) = [.ok, .halted, .faulted, .stuck] := by decide
theorem witness_StateLogicPrecedesClockPrecedesCounter : (sendAt 0x169 2 quiet).Running ∧ (sendAt 0x169 2 quiet).Completes ∧
    (sendAt 0x169 2 quiet).afterLogic = .next (sendAt 0x169 2 quiet).emit.shiftFrame := ⟨by decide, by decide, rfl⟩
theorem witness_ResetHoldsTheStatedValues : Params.wellFormed ⟨6, 63⟩ = true ∧
    Params.wellFormed ⟨32, 4294967245⟩ = true := by decide
theorem witness_ResetRestoresEveryRegister : (halted resetting).rst = true ∧ (sendAt 0x169 2 resetting).rst = true := by
  decide
theorem witness_InvariantsHoldAtReset : Params.wellFormed ⟨6, 63⟩ = true := by decide
set_option synthInstance.maxSize 1000 in
/-- The invariant holds in each phase, in a stuck sampling tick, and across the wrap. -/
theorem witness_EveryStepKeepsTheInvariants : (idleAt 50 quiet).Inv ∧ (nextOf (idleAt 50 quiet)).Inv ∧
    (idleAt 50 (sample 0x8000)).Inv ∧ (sendAt 0x001 18 quiet).Inv ∧ (ackAt 4294967295 quiet).Inv := by decide
theorem witness_EveryStepKeepsTheInvariants_step : step (sendAt 0x001 18 quiet) = .next (nextOf (sendAt 0x001 18 quiet)) :=
  rfl
theorem witness_HaltedBlockIsFrozen : (halted quiet).fault = true ∧ NoReset [sample 0x7FFF, lineHigh] := by decide
theorem witness_FaultIsSetByFatalAndClearedByReset : step (halted quiet) = .next (nextOf (halted quiet)) ∧
    (halted quiet).rst = false ∧ (halted quiet).fault = true := ⟨rfl, by decide, by decide⟩
/-- One state for each clause of the relation. -/
theorem witness_TransitionRelation : (idleAt 49 quiet).phase = some .idle ∧ (idleAt 49 quiet).tick % 50 ≠ 0 ∧
    (idleAt 50 (sample 1)).rawValid = true ∧ (idleAt 50 quiet).rawValid = false ∧ (idleAt 50 quiet).tick % 50 = 0 ∧
    (sendAt 0x002 2 quiet).phase = some .transmit ∧ (sendAt 0x002 2 quiet).frame.toNat / 2 ≠ 0 ∧
    (sendAt 0x001 2 quiet).frame.toNat / 2 = 0 ∧ (ackAt 19 quiet).phase = some .acknowledge ∧
    (ackAt 19 quiet).dataIn = false ∧ (ackAt 19 lineHigh).dataIn = true ∧ (corrupt quiet).phase = none ∧
    (corrupt quiet).fault = false ∧ (halted quiet).fault = true ∧ (halted quiet).rst = false := by decide
theorem witness_TransitionRelation_step : step (idleAt 50 (sample 1)) = .next (nextOf (idleAt 50 (sample 1))) ∧
    step (ackAt 19 lineHigh) = .next (nextOf (ackAt 19 lineHigh)) := ⟨rfl, rfl⟩
theorem witness_FlagsAreWrittenByTheirOperationsOnly :
    ((idleAt 50 (sample 1)).txf = false ∧ (nextOf (idleAt 50 (sample 1))).txf = true) ∧
    ((sendAt 0x001 18 quiet).txf = true ∧ (nextOf (sendAt 0x001 18 quiet)).txf = false) ∧
    ((sendAt 0x000 7 quiet).ackf = false ∧ (nextOf (sendAt 0x000 7 quiet)).ackf = true) ∧
    ((ackAt 19 lineHigh).ackf = true ∧ (nextOf (ackAt 19 lineHigh)).ackf = false) := by decide
theorem witness_FrameIsLoadedOnlyOnTheWayToTransmit :
    (nextOf (idleAt 50 (sample 1))).frame ≠ (idleAt 50 (sample 1)).frame ∧
    (nextOf (sendAt 0x001 18 quiet)).frame ≠ (sendAt 0x001 18 quiet).frame := by decide
theorem witness_DataLevelChangesOnlyOnEvenTransmitTicks : (sendAt 0x169 2 quiet).rst = false ∧
    (nextOf (sendAt 0x169 2 quiet)).dout ≠ (sendAt 0x169 2 quiet).dout := by decide
theorem witness_LatchesChangeOnlyWhenSampling : (idleAt 50 (sample 0x8000)).rst = false ∧
    (nextOf (idleAt 50 (sample 0x8000))).raw ≠ (idleAt 50 (sample 0x8000)).raw ∧
    (nextOf (idleAt 50 (sample 0x8000))).angle ≠ (idleAt 50 (sample 0x8000)).angle := by decide
theorem witness_DirectionFollowsThePhase : ((idleAt 49 quiet).Running ∧ (idleAt 49 quiet).InIdle) ∧
    ((ackAt 19 quiet).Running ∧ (ackAt 19 quiet).InAcknowledge) ∧
    ((sendAt 0x169 2 quiet).Running ∧ (sendAt 0x169 2 quiet).InTransmit) := by decide
theorem witness_InputsAreReadOnlyWhenPolled :
    ¬((idleAt 49 quiet).Running ∧ (idleAt 49 quiet).InIdle ∧ (idleAt 49 quiet).tick % 50 = 0) ∧
    (idleAt 50 quiet).rawValid = false ∧ ¬((idleAt 50 quiet).Running ∧ (idleAt 50 quiet).InAcknowledge) := by decide
theorem witness_SamplingGateImpliesBitGate :
    exec .gate50 (idleAt 50 quiet) = .next ({ idleAt 50 quiet with fnOut := .bit true }) := rfl
/-- Two completed ticks across the wrap. -/
theorem witness_ClockAlternatesAcrossTheWrap : (ackAt 4294967295 quiet).Completes ∧
    ((nextOf (ackAt 4294967295 quiet)).withInputs lineHigh).Completes ∧
    1 ≤ (ackAt 4294967295 quiet).params.tickWidth := by decide
theorem witness_ClockAlternatesAcrossTheWrap_step :
    step (ackAt 4294967295 quiet) = .next (nextOf (ackAt 4294967295 quiet)) ∧
    step ((nextOf (ackAt 4294967295 quiet)).withInputs lineHigh) =
      .next (nextOf ((nextOf (ackAt 4294967295 quiet)).withInputs lineHigh)) := ⟨rfl, rfl⟩
theorem witness_CounterCountsCompletedTicks : (ackAt 19 quiet).rst = false ∧ (ackAt 19 quiet).Completes ∧
    (corrupt quiet).rst = false ∧ ¬(corrupt quiet).Completes := by decide
/-- From 1 and from 49. -/
theorem witness_IdleBlockWaitsForTheNextMultiple : ∀ n ∈ [1, 49], (idleAt n quiet).Ready ∧ (idleAt n quiet).InIdle ∧
    NoReset (List.replicate (50 - n) lineHigh) ∧ 0 < (idleAt n quiet).tick % 50 ∧
    (idleAt n quiet).tick % 50 + (List.replicate (50 - n) lineHigh).length = 50 ∧
    (idleAt n quiet).tick + (List.replicate (50 - n) lineHigh).length < 2 ^ (idleAt n quiet).params.tickWidth := by decide
/-- One tick and 45 ticks before the wrap, W = 32. -/
theorem witness_WrapBringsASampleEarly : ∀ n ∈ [1, 45], (idleAt (4294967296 - n) quiet).Ready ∧
    (idleAt (4294967296 - n) quiet).InIdle ∧ NoReset (List.replicate n quiet) ∧ 0 < (List.replicate n quiet).length ∧
    (List.replicate n quiet).length < 2 ^ (idleAt (4294967296 - n) quiet).params.tickWidth % 50 ∧
    (idleAt (4294967296 - n) quiet).tick + (List.replicate n quiet).length =
      2 ^ (idleAt (4294967296 - n) quiet).params.tickWidth := by decide
theorem witness_AngleRangeAndShape : (0x8000 : Sample).toInt ≤ (0x7FFF : Sample).toInt := by decide
theorem witness_LoadedFrameLength : exec .frload (small 0x000 0 128) = .next (small 0x000 0 128).loadFrame ∧
    128 ≤ (small 0x000 0 128).angle.toNat ∧ (small 0x000 0 127).angle.toNat ≤ 127 ∧
    (small 0x000 0 150).angle.toNat ≤ 150 := ⟨rfl, by decide, by decide, by decide⟩
/-- Angles 127 (nine slots) and 128 (eight slots). -/
theorem witness_TransmissionSendsTheAngle : ∀ x ∈ [((127 : Byte), (0x101 : Frame), 18), (128, 0x0FF, 16)],
    (sendAt x.2.1 1 quiet).Ready ∧ (sendAt x.2.1 1 quiet).InTransmit ∧ (sendAt x.2.1 1 quiet).tick % 2 = 1 ∧
    (sendAt x.2.1 1 quiet).frame.toNat = 511 - 2 * x.1.toNat ∧ 1 ≤ (sendAt x.2.1 1 quiet).params.tickWidth ∧
    NoReset (List.replicate x.2.2 quiet) ∧
    (List.replicate x.2.2 quiet).length = 2 * frameLength (sendAt x.2.1 1 quiet).frame := by decide
theorem witness_ReceiverRecoversTheAngle : (sendAt 0x0D3 1 quiet).Ready ∧ (sendAt 0x0D3 1 quiet).InTransmit ∧
    (sendAt 0x0D3 1 quiet).tick % 2 = 1 ∧ (sendAt 0x0D3 1 quiet).frame.toNat = 511 - 2 * (150 : Byte).toNat ∧
    1 ≤ (sendAt 0x0D3 1 quiet).params.tickWidth ∧ NoReset (List.replicate 16 quiet) ∧
    (List.replicate 16 quiet).length = 2 * frameLength (sendAt 0x0D3 1 quiet).frame ∧ (75 : Byte).toNat ≤ 127 := by decide
theorem witness_AcknowledgeStartsFromLevelZero : (sendAt 0x001 18 quiet).Inv ∧ (sendAt 0x001 18 quiet).ackf = false ∧
    (nextOf (sendAt 0x001 18 quiet)).ackf = true := by decide
theorem witness_LastSlotIsReleasedBeforeItsClockRise : 1 ≤ (sendAt 0x001 18 quiet).params.tickWidth ∧
    (sendAt 0x001 18 quiet).Running ∧ (sendAt 0x001 18 quiet).InTransmit ∧ (sendAt 0x001 18 quiet).dir = true ∧
    (sendAt 0x001 18 quiet).frame = 1 ∧ (sendAt 0x001 18 quiet).tick % 2 = 0 ∧ lineHigh.rst = false := by decide
theorem witness_LineShowsTheComplementedFrameBit : (sendAt 0x0B4 4 quiet).Running ∧ (sendAt 0x0B4 4 quiet).InTransmit ∧
    (sendAt 0x0B4 4 quiet).tick % 2 = 0 ∧ (sendAt 0x0B4 4 quiet).dir = true ∧ State.reset.dir = false := by decide
theorem witness_NoAcknowledgeNoProgress : (ackAt 4294967295 quiet).Ready ∧ (ackAt 4294967295 quiet).InAcknowledge ∧
    1 ≤ (ackAt 4294967295 quiet).params.tickWidth ∧ NoReset [quiet, sample 0x7FFF] ∧
    (∀ i ∈ [quiet, sample 0x7FFF], i.dataIn = false) ∧ 0 < [quiet, sample 0x7FFF].length := by decide
theorem witness_StuckInAcquisition : (idleAt 50 quiet).Ready ∧ (idleAt 50 quiet).InIdle ∧
    (idleAt 50 quiet).tick % 50 = 0 ∧ quiet.rst = false ∧ quiet.rawValid = false ∧ NoReset [quiet, sample 1] ∧
    [quiet, sample 1] ≠ [] ∧ resetting.rst = true := by decide
/-- Angle 150: eight slots, two ticks of waiting. -/
theorem witness_OneCycle : (idleAt 50 quiet).Ready ∧ (idleAt 50 quiet).InIdle ∧ (idleAt 50 quiet).tick % 50 = 0 ∧
    1 ≤ (idleAt 50 quiet).params.tickWidth ∧ (sample 0x8000).rst = false ∧ (sample 0x8000).rawValid = true ∧
    (150 : Byte) = BitVec.ofInt 8 ((2457600 - 75 * (sample 0x8000).rawIn.toInt) / 32768) ∧
    (0x0D3 : Frame) = BitVec.ofNat 9 (511 - 2 * (150 : Byte).toNat) ∧ NoReset (List.replicate 16 quiet) ∧
    (List.replicate 16 quiet).length = 2 * frameLength (0x0D3 : Frame) ∧ NoReset [quiet, quiet] ∧
    (∀ i ∈ [quiet, quiet], i.dataIn = false) ∧ lineHigh.rst = false ∧ lineHigh.dataIn = true := by decide

end Sys2Proof.Tests
end

section
/-! PROOFS. One step by its outcome: reset, halted, an acquisition that does not end, Fatal, or a completed tick. The
statements about the registers (spec/10_state.md) are read off from these five. -/

namespace Sys2Proof.Machine

/-- The state logic of a tick that completes, step (a) of 43_clock_divider.md R126, one constructor per operation:
`TickLogic s u` says that it takes `s` to `u`. -/
inductive TickLogic (s : State) : State → Prop
  | idleWait (ha : s.ackf = false) (ht : s.txf = false) (hg : s.tick % 50 ≠ 0) : TickLogic s (s.setDir true)
  | idleSample (ha : s.ackf = false) (ht : s.txf = false) (hg : s.tick % 50 = 0) (hv : s.rawValid = true) :
      TickLogic s (s.requestSample.acceptSample s.rawIn)
  | txHold (ha : s.ackf = false) (ht : s.txf = true) (hp : s.tick % 2 ≠ 0) (hz : s.frame.toNat ≠ 0) : TickLogic s s
  | txHoldEnd (ha : s.ackf = false) (ht : s.txf = true) (hp : s.tick % 2 ≠ 0) (hz : s.frame.toNat = 0) :
      TickLogic s (s.setPhase .acknowledge)
  | txShift (ha : s.ackf = false) (ht : s.txf = true) (hp : s.tick % 2 = 0) (hz : ¬s.frame.toNat ≤ 1) :
      TickLogic s s.emit.shiftFrame
  | txShiftEnd (ha : s.ackf = false) (ht : s.txf = true) (hp : s.tick % 2 = 0) (hz : s.frame.toNat ≤ 1) :
      TickLogic s (s.emit.shiftFrame.setPhase .acknowledge)
  | ackWait (ha : s.ackf = true) (ht : s.txf = false) (hd : s.dataIn = false) : TickLogic s (s.setDir false)
  | ackDone (ha : s.ackf = true) (ht : s.txf = false) (hd : s.dataIn = true) :
      TickLogic s ((s.setDir false).setPhase .idle)

/-- The five ways a step comes to a next state (R126, R133, R136, R149). -/
inductive StepTo (s : State) : State → Prop
  | reset (hr : s.rst = true) : StepTo s s.applyReset.redraw
  | halted (hr : s.rst = false) (hf : s.fault = true) : StepTo s s.redraw
  | stuck (run : s.Running) (ha : s.ackf = false) (ht : s.txf = false) (hg : s.tick % 50 = 0)
      (hv : s.rawValid = false) : StepTo s s.requestSample.redraw
  | fatal (run : s.Running) (ha : s.ackf = true) (ht : s.txf = true) : StepTo s (raiseFatal .stateCorrupt s).redraw
  | completed (run : s.Running) {u : State} (logic : TickLogic s u) : StepTo s u.finishTick.redraw

/-- `step_cases` with the ticks that complete gathered into one case. -/
theorem stepTo_of_step {s t : State} (h : step s = .next t) : StepTo s t := by
  rcases step_cases h with ⟨hr, rfl⟩ | ⟨hr, hf, rfl⟩ | ⟨hr, hf, hq, c⟩
  · exact .reset hr
  · exact .halted hr hf
  have run : s.Running := ⟨hr, hf, hq⟩
  rcases c with ⟨ha, ht, hg, rfl⟩ | ⟨ha, ht, hg, hv, rfl⟩ | ⟨ha, ht, hg, hv, rfl⟩ | ⟨ha, ht, hp, hz, rfl⟩ |
    ⟨ha, ht, hp, hz, rfl⟩ | ⟨ha, ht, hp, hz, rfl⟩ | ⟨ha, ht, hp, hz, rfl⟩ | ⟨ha, ht, hd, rfl⟩ | ⟨ha, ht, hd, rfl⟩ |
    ⟨ha, ht, rfl⟩
  · exact .completed run (.idleWait ha ht hg)
  · exact .completed run (.idleSample ha ht hg hv)
  · exact .stuck run ha ht hg hv
  · exact .completed run (.txHold ha ht hp hz)
  · exact .completed run (.txHoldEnd ha ht hp hz)
  · exact .completed run (.txShift ha ht hp hz)
  · exact .completed run (.txShiftEnd ha ht hp hz)
  · exact .completed run (.ackWait ha ht hd)
  · exact .completed run (.ackDone ha ht hd)
  · exact .fatal run ha ht

/-! ## What the state logic of a completed tick leaves alone, and when a tick completes -/

/-- The state logic leaves the counter (log entry 1): TICKINC comes after it. -/
theorem TickLogic.tick_eq {s u : State} (h : TickLogic s u) : u.tick = s.tick := by
  cases h <;> rfl

/-- Nothing writes the bench in a tick (log entries 5 and 6). -/
theorem TickLogic.toBench_eq {s u : State} (h : TickLogic s u) : u.toBench = s.toBench := by
  cases h <;> rfl

/-- Only FATAL writes `FAULT` (10_state.md R27), and it completes no tick. -/
theorem TickLogic.fault_eq {s u : State} (h : TickLogic s u) : u.fault = s.fault := by
  cases h <;> rfl

/-- Both flags set select FATAL (R73), so a tick that completes has found at most one of them set. -/
theorem TickLogic.flagsLegal {s u : State} (h : TickLogic s u) : s.FlagsLegal := by
  rintro ⟨ht', ha'⟩
  cases h <;> simp_all

/-- A tick with a state logic of a completed tick is one that completes (R126). -/
theorem TickLogic.completes {s u : State} (h : TickLogic s u) (run : s.Running) : s.Completes := by
  refine ⟨run, h.flagsLegal, ?_⟩
  rintro ⟨ha', ht'⟩ hg'
  cases h with
  | idleSample _ _ _ hv => exact hv
  | idleWait _ _ hg => exact absurd hg' hg
  | txHold _ ht | txHoldEnd _ ht | txShift _ ht | txShiftEnd _ ht => simp [ht] at ht'
  | ackWait ha | ackDone ha => simp [ha] at ha'

/-- `t` holds what `s` holds in every register but `DIR`, `FAULT` and `sample_req`. -/
structure DataKept (s t : State) : Prop where
  txf : t.txf = s.txf
  ackf : t.ackf = s.ackf
  frame : t.frame = s.frame
  tick : t.tick = s.tick
  clk : t.clk = s.clk
  dout : t.dout = s.dout
  raw : t.raw = s.raw
  angle : t.angle = s.angle

/-- A step without reset either completes a tick, by its state logic and then the clock and the counter (R126), or writes
at most `DIR`, `FAULT` and `sample_req` (R133, R136). -/
theorem step_completes_or_keeps {s t : State} (hr : s.rst = false) (h : step s = .next t) :
    (s.Completes ∧ ∃ u, TickLogic s u ∧ t = u.finishTick.redraw) ∨
    (¬s.Completes ∧ DataKept s t) := by
  cases stepTo_of_step h with
  | reset hr' => exact absurd hr' (by simp [hr])
  | halted _ hf =>
    refine .inr ⟨?_, ⟨rfl, rfl, rfl, rfl, rfl, rfl, rfl, rfl⟩⟩
    rintro ⟨⟨_, hf', _⟩, _⟩
    simp [hf] at hf'
  | stuck _ ha ht hg hv =>
    refine .inr ⟨?_, ⟨rfl, rfl, rfl, rfl, rfl, rfl, rfl, rfl⟩⟩
    rintro ⟨_, _, answered⟩
    simp [answered ⟨ha, ht⟩ hg] at hv
  | fatal _ ha ht =>
    refine .inr ⟨?_, ⟨rfl, rfl, rfl, rfl, rfl, rfl, rfl, rfl⟩⟩
    rintro ⟨_, legal, _⟩
    exact legal ⟨ht, ha⟩
  | completed run logic => exact .inl ⟨logic.completes run, _, logic, rfl⟩

/-! ## The phases as readings of the flags (R17) -/

theorem phase_of_inIdle {s : State} (h : s.InIdle) : s.phase = some .idle := by
  simp [State.phase, Registers.phase, h.1, h.2]

theorem phase_of_inTransmit {s : State} (h : s.InTransmit) : s.phase = some .transmit := by
  simp [State.phase, Registers.phase, h.1, h.2]

/-! ## The frame and the byte toward the line -/

/-- The level of FREMIT's byte is the complement of the frame bit that leaves (R63, R93). -/
theorem lineByte_getLsbD_zero (f : Frame) : (lineByte f).getLsbD 0 = !f.getLsbD 0 := by
  simp [lineByte]

/-- The frame's last bit out is the leading 1, so FREMIT's byte in the tick that ends a transmission is 0xFE (R98). -/
theorem lineByte_of_toNat_eq_one {f : Frame} (h : f.toNat = 1) : lineByte f = 0xFE := by
  apply BitVec.eq_of_toNat_eq
  rw [lineByte_toNat, h]
  rfl

/-- The shifted frame is zero exactly if at most bit 0 was set (R95, R96). -/
theorem shiftedFrame_eq_zero_iff (f : Frame) : shiftedFrame f = 0 ↔ f.toNat ≤ 1 := by
  simp only [BitVec.toNat_eq, shiftedFrame_toNat, BitVec.ofNat_eq_ofNat, BitVec.toNat_ofNat]
  omega

/-- V2A's angle is at most ANGLE_MAX (R86). -/
theorem v2aAngle_toNat_le (p : Sample) : (v2aAngle p.toInt).toNat ≤ 150 := by
  have value := v2aAngle_toNat p
  have bounds := v2aQuotient_bounds p
  omega

/-- An even TRANSMIT tick emits from the old frame and leaves `DIR`, whether it ends the transmission or not (R107,
R108). -/
theorem step_even_transmit {s t : State} (run : s.Running) (phase : s.InTransmit) (hp : s.tick % 2 = 0)
    (h : step s = .next t) : t.dout = lineByte s.frame ∧ t.dir = s.dir := by
  obtain ⟨hr, hf, hq⟩ := run
  obtain ⟨ha, ht⟩ := phase
  by_cases hz : s.frame.toNat ≤ 1
  · rw [step_txShiftEnd hr hf hq ha ht hp hz] at h
    cases h
    exact ⟨rfl, rfl⟩
  · rw [step_txShift hr hf hq ha ht hp hz] at h
    cases h
    exact ⟨rfl, rfl⟩

end Sys2Proof.Machine
end

section
/-! PROOFS. The statements about reset, the fault, the flags, the frame, the latches, the counter and the line. -/

namespace Sys2Proof.Machine

/-- An admitted start count fits the counter, so reset loads it whole (R33, R8). -/
theorem resetWith_tick_eq {p : Params} (hp : p.wellFormed = true) : (Registers.resetWith p).tick = p.tick0 :=
  Nat.mod_eq_of_lt ((wellFormed_params_iff p).1 hp).2

/-- Settles O31. -/
theorem resetHoldsTheStatedValues : Obligations.ResetHoldsTheStatedValues :=
  ⟨fun _ hp => ⟨rfl, rfl, rfl, resetWith_tick_eq hp, rfl, rfl, rfl, rfl, rfl, rfl⟩, rfl⟩

/-- Settles O57, from the byte an even TRANSMIT tick emits. -/
theorem lineShowsTheComplementedFrameBit : Obligations.LineShowsTheComplementedFrameBit := by
  constructor
  · intro s t outside run phase hp hdir h
    obtain ⟨dout, dir⟩ := step_even_transmit run phase hp h
    simp only [lineLevel, dir, hdir, dout, if_true, lineByte_getLsbD_zero]
  · intro s outside hdir
    simp [lineLevel, hdir]

/-- Settles O36, by the outcome of the step. -/
theorem faultIsSetByFatalAndClearedByReset : Obligations.FaultIsSetByFatalAndClearedByReset := by
  intro s t h
  cases stepTo_of_step h with
  | reset hr => simp [hr]
  | halted hr hf => simp [hr, hf]
  | stuck run ha _ _ _ =>
    obtain ⟨_, hf, _⟩ := run
    simp [hf, ha]
  | fatal run ha ht =>
    obtain ⟨hr, hf, _⟩ := run
    simp [hr, hf, ha, ht]
  | completed run logic =>
    obtain ⟨_, hf, _⟩ := run
    have legal : ¬(s.ackf = true ∧ s.txf = true) := fun both => logic.flagsLegal both.symm
    simp [logic.fault_eq, hf, legal]

/-- Settles O38: only the state logic of a completed tick writes the flags, so its operations decide. -/
theorem flagsAreWrittenByTheirOperationsOnly : Obligations.FlagsAreWrittenByTheirOperationsOnly := by
  intro s t hr h
  rcases step_completes_or_keeps hr h with ⟨-, u, logic, rfl⟩ | ⟨-, kept⟩
  · cases logic with
    | idleWait ha ht _ => simp [ha, ht]
    | idleSample ha ht hg hv => simp [ha, hv, op_idleSample ha ht hg]
    | txHold ha ht _ _ => simp [ha, ht]
    | txHoldEnd ha ht hp hz => simp [ha, ht, op_transmit ha ht, hp, hz]
    | txShift ha ht _ _ => simp [ha, ht]
    | txShiftEnd ha ht hp hz => simp [ha, ht, op_transmit ha ht, hp, hz]
    | ackWait ha ht _ => simp [ha, ht]
    | ackDone ha ht hd => simp [ha, ht, op_acknowledge ha ht, hd]
  · have txf := kept.txf
    have ackf := kept.ackf
    simp_all

/-- Settles O39: of the state logics of completed ticks only IDLE_SAMPLE and the two shifts write the frame. -/
theorem frameIsLoadedOnlyOnTheWayToTransmit : Obligations.FrameIsLoadedOnlyOnTheWayToTransmit := by
  intro s t hr h changed
  rcases step_completes_or_keeps hr h with ⟨-, u, logic, rfl⟩ | ⟨-, kept⟩
  · cases logic with
    | idleSample ha ht hg hv =>
      exact .inl ⟨phase_of_inIdle ⟨ha, ht⟩, phase_of_inTransmit ⟨rfl, rfl⟩, hg, loadedFrame_toNat _⟩
    | txShift ha ht hp _ => exact .inr ⟨phase_of_inTransmit ⟨ha, ht⟩, hp, shiftedFrame_toNat _⟩
    | txShiftEnd ha ht hp _ => exact .inr ⟨phase_of_inTransmit ⟨ha, ht⟩, hp, shiftedFrame_toNat _⟩
    | idleWait | txHold | txHoldEnd | ackWait | ackDone => exact absurd rfl changed
  · exact absurd kept.frame changed

/-- Settles O41: of the state logics of completed ticks only IDLE_SAMPLE writes the latches. -/
theorem latchesChangeOnlyWhenSampling : Obligations.LatchesChangeOnlyWhenSampling := by
  intro s t hr h changed
  rcases step_completes_or_keeps hr h with ⟨completes, u, logic, rfl⟩ | ⟨-, kept⟩
  · cases logic with
    | idleSample ha ht hg hv => exact ⟨completes, op_idleSample ha ht hg, rfl, v2aAngle_toNat _⟩
    | idleWait | txHold | txHoldEnd | txShift | txShiftEnd | ackWait | ackDone =>
      exact changed.elim (absurd rfl) (absurd rfl)
  · exact changed.elim (absurd kept.raw) (absurd kept.angle)

/-- Settles O46: TICKINC follows the state logic of a completed tick, which leaves the counter and the width alone. -/
theorem counterCountsCompletedTicks : Obligations.CounterCountsCompletedTicks := by
  intro s t hr h
  rcases step_completes_or_keeps hr h with ⟨completes, u, logic, rfl⟩ | ⟨incomplete, kept⟩
  · refine ⟨fun _ => ?_, absurd completes⟩
    simp [logic.tick_eq, logic.toBench_eq]
  · exact ⟨fun completes => absurd completes incomplete,
      fun _ => ⟨kept.tick, kept.clk⟩⟩

end Sys2Proof.Machine
end

section
/-! PROOFS. The invariants of spec/10_state.md R34. CLKUPD and TICKINC establish the parts about the clock and the counter
after every completed tick, so the state logic has to keep the other parts only. -/

namespace Sys2Proof.Machine

/-- The parts of `Inv` that the state logic of a tick keeps, for a block that runs: neither halted nor with a request
standing. -/
structure State.LogicInv (s : State) : Prop where
  flagsLegal : s.FlagsLegal
  frameFollowsPhase : s.FrameFollowsPhase
  angleInRange : s.AngleInRange
  ready : s.Ready
  params : s.params.wellFormed = true
  retainedLevelLow : s.RetainedLevelLow
  drivesInTransmit : s.DrivesInTransmit

theorem State.Inv.logicInv {s : State} (inv : s.Inv) (hq : s.sampleReq = false) : s.LogicInv := by
  obtain ⟨flags, frame, -, angle, hf, ⟨params, -⟩, retained, drives, -⟩ := inv
  exact ⟨flags, frame, angle, ⟨hf, hq⟩, params, retained, drives⟩

/-- CLKUPD and TICKINC make the whole of `Inv` out of the part that the state logic keeps (R34 item 4, R122, R124). -/
theorem State.LogicInv.inv_finishTick {u : State} (h : u.LogicInv) : u.finishTick.redraw.Inv := by
  have width := ((wellFormed_params_iff u.params).1 h.params).1
  have clock : u.finishTick.redraw.ClockFollowsTick := by
    left
    simp only [State.redraw_toRegisters, State.finishTick_toRegisters, Registers.finishTick_clk,
      Registers.finishTick_tick, clockLevel_eq, parity_of_wrapped _ _ (by omega : 1 ≤ u.params.tickWidth)]
    apply decide_eq_decide.2
    omega
  have counter : u.finishTick.redraw.CounterInRange := ⟨h.params, Nat.mod_lt _ (by positivity)⟩
  have request : u.finishTick.redraw.RequestInSampling := fun hq => absurd hq (by simp [h.ready.2])
  exact ⟨h.flagsLegal, h.frameFollowsPhase, clock, h.angleInRange, h.ready.1, counter, h.retainedLevelLow,
    h.drivesInTransmit, request⟩

/-- The state logic of a completed tick keeps its part of the invariants (R34). -/
theorem TickLogic.logicInv {s u : State} (logic : TickLogic s u) (h : s.LogicInv) : u.LogicInv := by
  obtain ⟨flags, frame, angle, ready, params, retained, drives⟩ := h
  cases logic with
  | idleWait => exact ⟨flags, frame, angle, ready, params, retained, fun _ => rfl⟩
  | idleSample =>
    exact ⟨by simp [State.FlagsLegal], iff_of_true (loadedFrame_ne_zero _) rfl, v2aAngle_toNat_le _,
      ⟨ready.1, rfl⟩, params, by simp [State.RetainedLevelLow], fun _ => rfl⟩
  | txHold => exact ⟨flags, frame, angle, ready, params, retained, drives⟩
  | txHoldEnd _ ht _ hz => exact absurd hz (BitVec.toNat_ne_iff_ne.2 (frame.2 ht))
  | txShift ha ht _ hz =>
    exact ⟨flags, iff_of_true (mt (shiftedFrame_eq_zero_iff _).1 hz) ht, angle, ready, params,
      by simp [State.RetainedLevelLow, ht], drives⟩
  | txShiftEnd ha ht _ hz =>
    have nonzero : s.frame.toNat ≠ 0 := BitVec.toNat_ne_iff_ne.2 (frame.2 ht)
    have one : s.frame.toNat = 1 := by omega
    have empty : shiftedFrame s.frame = 0 := (shiftedFrame_eq_zero_iff _).2 hz
    exact ⟨by simp [State.FlagsLegal], iff_of_false (not_not.2 empty) (by simp), angle, ready, params,
      fun _ => .inr (lineByte_of_toNat_eq_one one), by simp [State.DrivesInTransmit]⟩
  | ackWait _ ht _ => exact ⟨flags, frame, angle, ready, params, retained, by simp [State.DrivesInTransmit, ht]⟩
  | ackDone _ ht _ =>
    have zero : s.frame = 0 := by simpa [State.FrameFollowsPhase, ht] using frame
    exact ⟨by simp [State.FlagsLegal], iff_of_false (not_not.2 zero) (by simp), angle, ready, params,
      fun _ => retained ht, by simp [State.DrivesInTransmit]⟩

/-- A request raised by a sampling tick that does not end leaves everything else but `DIR` as it was (R136). -/
theorem inv_requestSample {s : State} (inv : s.Inv) (ha : s.ackf = false) (ht : s.txf = false)
    (hg : s.tick % 50 = 0) : s.requestSample.redraw.Inv := by
  obtain ⟨flags, frame, clock, angle, hf, counter, retained, -, -⟩ := inv
  exact ⟨flags, frame, clock, angle, hf, counter, retained, fun _ => rfl, fun _ => ⟨rfl, ht, ha, hg⟩⟩

/-- A block at its reset values has the invariants, whatever the inputs (R33, R34). -/
theorem inv_of_reset_registers {s : State} (hp : s.params.wellFormed = true)
    (regs : s.toRegisters = Registers.resetWith s.params) : s.Inv := by
  have start : s.tick = s.params.tick0 := regs ▸ resetWith_tick_eq hp
  have clock : s.ClockFollowsTick := .inr ⟨by simp [regs], start, by simp [regs], by simp [regs]⟩
  have counter : s.CounterInRange := ⟨hp, start ▸ ((wellFormed_params_iff _).1 hp).2⟩
  exact ⟨by simp [State.FlagsLegal, regs], by simp [State.FrameFollowsPhase, regs], clock,
    by simp [State.AngleInRange, regs], by simp [regs], counter, fun _ => .inl (by simp [regs]),
    by simp [State.DrivesInTransmit, regs], by simp [State.RequestInSampling, regs]⟩

/-- Settles O33. -/
theorem invariantsHoldAtReset : Obligations.InvariantsHoldAtReset := by
  have all (p : Params) (hp : p.wellFormed = true) : (State.resetWith p).Inv := inv_of_reset_registers hp rfl
  exact ⟨all, all ⟨32, 0⟩ (by decide)⟩

/-- Settles O34, by the outcome of the step: the halted block and FATAL are shut out by the invariants themselves. -/
theorem everyStepKeepsTheInvariants : Obligations.EveryStepKeepsTheInvariants := by
  intro s t inv h
  have ⟨legal, _, _, _, clear, ⟨params, _⟩, _⟩ := inv
  cases stepTo_of_step h with
  | reset _ => exact inv_of_reset_registers params rfl
  | halted _ hf => simp [hf] at clear
  | stuck _ ha ht hg _ => exact inv_requestSample inv ha ht hg
  | fatal _ ha ht => exact absurd ⟨ht, ha⟩ legal
  | completed run logic =>
    obtain ⟨_, _, hq⟩ := run
    exact (logic.logicInv (inv.logicInv hq)).inv_finishTick

end Sys2Proof.Machine
end

section
/-! PROOFS. The memory family (spec/20_memory.md): the acquisition, the request for a sample, the byte toward the line,
the direction, and the order within a tick. -/

namespace Sys2Proof.Machine

/-! ## The acquisition -/

/-- Of the nine actions of an acquisition only the two busy-waits can keep the answer back (R46, R47, R49). -/
theorem acquire_eq (c : Converter) :
    acquire c = if c.settles then (if c.converts then some (rawPattern c.low c.high) else none) else none := rfl

/-- A pattern is the one of two result bytes exactly if it has their number (R40). -/
theorem rawPattern_eq_iff (lo hi : Byte) (p : Sample) :
    rawPattern lo hi = p ↔ p.toNat = lo.toNat + 256 * hi.toNat := by
  rw [BitVec.toNat_eq, rawPattern_toNat, Nat.mul_comm, eq_comm]

/-- Settles O51, by the two waits. -/
theorem acquireAnswersWhenBothWaitsEnd : Obligations.AcquireAnswersWhenBothWaitsEnd := by
  intro c p
  rw [acquire_eq]
  cases c.settles with
  | false => simp
  | true =>
    cases c.converts with
    | false => simp
    | true => simp [rawPattern_eq_iff]

/-! ## The state logic as an instruction -/

/-- IDLE_SAMPLE whose sample comes (42_link_fsm.md R104). -/
theorem exec_idleSample_answered {s : State} (hv : s.rawValid = true) :
    exec .idleSample s = .next (s.requestSample.acceptSample s.rawIn) := by
  simp [exec, execIdleSample, hv]

/-- IDLE_SAMPLE whose sample never comes stands at its request (R52, 60_exceptions.md R136). -/
theorem exec_idleSample_unanswered {s : State} (hv : s.rawValid = false) :
    exec .idleSample s = .next s.requestSample := by
  simp [exec, execIdleSample, hv]

/-- What the state logic of every tick leaves alone: the clock and the counter, which CLKUPD and TICKINC write after it
(R57), the bench, and outside IDLE_SAMPLE the request (R52). -/
structure LogicFrame (i : Instr) (s t : State) : Prop where
  clk : t.clk = s.clk
  tick : t.tick = s.tick
  toBench : t.toBench = s.toBench
  sampleReq : i ≠ .idleSample → t.sampleReq = s.sampleReq

/-- The operations that have a selector word are the tick operations (30_encoding.md R71), and each keeps the frame of a
state logic. -/
theorem exec_logicFrame {i : Instr} {s t : State} (word : encodeSel i ≠ none) (h : exec i s = .next t) :
    LogicFrame i s t := by
  cases i with
  | idleSample =>
    cases hv : s.rawValid with
    | true =>
      cases (exec_idleSample_answered hv).symm.trans h
      exact ⟨rfl, rfl, rfl, absurd rfl⟩
    | false =>
      cases (exec_idleSample_unanswered hv).symm.trans h
      exact ⟨rfl, rfl, rfl, absurd rfl⟩
  | idleWait | txHold | txHoldEnd | txShift | txShiftEnd | ackWait | ackDone | fatal =>
    cases h
    exact ⟨rfl, rfl, rfl, fun _ => rfl⟩
  | rawcat | tovolt | toangle | v2a | frload | fremit | frshift | frzero | gate50 | gate2 | clkupd | tickinc =>
    exact absurd rfl word

/-- The state logic of the coming tick keeps its frame. -/
theorem afterLogic_logicFrame {s t : State} (h : s.afterLogic = .next t) : LogicFrame s.op s t :=
  exec_logicFrame (encodeSel_decodeSel_ne_none s.selector) h

/-- The tick of `Completes` is one whose operation goes on to the clock and the counter (43_clock_divider.md R126). -/
theorem tickCompletes_of_completes {s : State} (h : s.Completes) : tickCompletes s.op s = true := by
  obtain ⟨-, legal, answered⟩ := h
  cases ha : s.ackf <;> cases ht : s.txf
  case false.false =>
    by_cases hg : s.tick % 50 = 0
    · rw [op_idleSample ha ht hg]
      exact answered ⟨ha, ht⟩ hg
    · rw [op_idleWait ha ht hg]
      rfl
  case false.true =>
    rw [op_transmit ha ht]
    split_ifs <;> rfl
  case true.false =>
    rw [op_acknowledge ha ht]
    split_ifs <;> rfl
  case true.true => exact absurd ⟨ht, ha⟩ legal

/-- Settles O30: the state logic keeps the clock and the counter, so CLKUPD sees the counter of the tick and TICKINC
advances that counter. -/
theorem stateLogicPrecedesClockPrecedesCounter : Obligations.StateLogicPrecedesClockPrecedesCounter := by
  intro s t run logic
  have frame := afterLogic_logicFrame logic
  refine ⟨frame.clk, frame.tick, fun completes => ?_⟩
  have goesOn := tickCompletes_of_completes completes
  obtain ⟨hr, hf, hq⟩ := run
  have clock : t.clkUpd = { t with clk := decide (s.tick % 2 = 1) } := by
    rw [← frame.tick, ← clockLevel_eq]
    rfl
  have counter : t.finishTick.redraw.regs =
      { t.clkUpd.regs with tick := (s.tick + 1) % 2 ^ s.params.tickWidth } := by
    rw [← frame.tick, ← frame.toBench]
    rfl
  refine ⟨t.clkUpd, t.finishTick.redraw, ?_, clock, ?_, counter⟩
  · simp [State.afterClock, logic, goesOn]
  · simp [step_running hr hf hq logic, goesOn]

/-! ## The states a tick passes through -/

/-- A tick that runs shows the request if it samples, the state after the logic, and in a completed tick those after the
clock and after the counter (R52, R57). -/
theorem tickStates_running {s t : State} (run : s.Running) (logic : s.afterLogic = .next t) :
    s.tickStates = (if s.op = .idleSample then [s.requestSample] else []) ++
      (if tickCompletes s.op s then [t, t.clkUpd, t.finishTick] else [t]) := by
  obtain ⟨hr, hf, hq⟩ := run
  simp [State.tickStates, hr, hf, hq, logic]

/-- Under reset, halted or stuck, the block performs no tick (R149, R133, R136). -/
theorem tickStates_not_running {s : State} (h : ¬s.Running) : s.tickStates = [] := by
  have stopped : (s.rst || s.fault || s.sampleReq) = true := by
    by_contra clear
    exact h (by simpa [and_assoc] using clear)
  simp [State.tickStates, stopped]

/-- A sampling tick whose sample never comes has the request up, and its state logic ends there (R52, R136). -/
theorem tickStates_idleSample_unanswered {s : State} (run : s.Running) (idle : s.InIdle) (hg : s.tick % 50 = 0)
    (hv : s.rawValid = false) : s.tickStates = [s.requestSample, s.requestSample] := by
  have op := op_idleSample idle.1 idle.2 hg
  have logic : s.afterLogic = .next s.requestSample := by
    rw [State.afterLogic, op, exec_idleSample_unanswered hv]
  simp [tickStates_running run logic, op, tickCompletes, hv]

/-- A sampling tick whose sample comes: the request, the sample, the clock, the counter (R52, R57). -/
theorem tickStates_idleSample_answered {s t : State} (run : s.Running) (idle : s.InIdle) (hg : s.tick % 50 = 0)
    (hv : s.rawValid = true) (sampled : exec .idleSample s = .next t) :
    s.tickStates = [s.requestSample, t, t.clkUpd, t.finishTick] := by
  have op := op_idleSample idle.1 idle.2 hg
  have logic : s.afterLogic = .next t := by
    rw [State.afterLogic, op, sampled]
  simp [tickStates_running run logic, op, tickCompletes, hv]

/-- A tick of any other operation keeps the request down throughout: it began with it down (R52). -/
theorem sampleReq_of_mem_tickStates {s u : State} (op : s.op ≠ .idleSample) (mem : u ∈ s.tickStates) :
    u.sampleReq = false := by
  by_cases run : s.Running
  case neg => simp [tickStates_not_running run] at mem
  cases logic : s.afterLogic with
  | next t =>
    have down : t.sampleReq = false := ((afterLogic_logicFrame logic).sampleReq op).trans run.2.2
    rw [tickStates_running run logic, if_neg op, List.nil_append] at mem
    split_ifs at mem
    · simp only [List.mem_cons, List.not_mem_nil, or_false] at mem
      rcases mem with rfl | rfl | rfl <;> exact down
    · rw [List.mem_singleton.1 mem]
      exact down
  | fault | refused =>
    obtain ⟨hr, hf, hq⟩ := run
    simp [State.tickStates, hr, hf, hq, logic, op] at mem

/-- Settles O3, from the states of a sampling tick and those of every other tick. -/
theorem sampleRequestStandsUntilTheSampleIsIn : Obligations.SampleRequestStandsUntilTheSampleIsIn := by
  refine ⟨fun s hv => exec_idleSample_unanswered hv, ?unanswered, ?answered, ?otherwise⟩
  case unanswered =>
    intro s run idle hg hv
    constructor
    · rw [State.portTrace, tickStates_idleSample_unanswered run idle hg hv]
      rfl
    · obtain ⟨hr, hf, hq⟩ := run
      exact ⟨_, step_idleStuck hr hf hq idle.1 idle.2 hg hv, rfl, rfl, rfl⟩
  case answered =>
    intro s run idle hg hv
    rw [State.portTrace, tickStates_idleSample_answered run idle hg hv (exec_idleSample_answered hv)]
    refine ⟨rfl, ?_⟩
    simp [State.outputs]
  case otherwise =>
    intro s op o mem
    obtain ⟨u, passed, rfl⟩ := List.mem_map.1 mem
    exact sampleReq_of_mem_tickStates op passed

/-! ## The byte toward the line and the direction -/

/-- Settles O40: of the state logics of completed ticks only the two shifts write `DOUT`. -/
theorem dataLevelChangesOnlyOnEvenTransmitTicks : Obligations.DataLevelChangesOnlyOnEvenTransmitTicks := by
  intro s t hr h changed
  rcases step_completes_or_keeps hr h with ⟨⟨⟨-, hf, -⟩, -⟩, u, logic, rfl⟩ | ⟨-, kept⟩
  · cases logic with
    | txShift ha ht hp _ | txShiftEnd ha ht hp _ => exact ⟨hf, phase_of_inTransmit ⟨ha, ht⟩, hp⟩
    | idleWait | idleSample | txHold | txHoldEnd | ackWait | ackDone => exact absurd rfl changed
  · exact absurd kept.dout changed

/-- The direction as the phase alone decides it (R55). -/
abbrev DirFollows (s t : State) : Prop :=
  (s.InIdle → t.dir = true) ∧ (s.InAcknowledge → t.dir = false) ∧ (s.InTransmit → t.dir = s.dir)

/-- The state logic of a completed tick writes `DIR` as R55 says. -/
theorem TickLogic.dirFollows {s u : State} (logic : TickLogic s u) : DirFollows s u := by
  cases logic with
  | idleWait ha ht | idleSample ha ht | txHold ha ht | txHoldEnd ha ht | txShift ha ht | txShiftEnd ha ht
  | ackWait ha ht | ackDone ha ht => simp [DirFollows, ha, ht]

/-- Settles O42, by the outcome of the step: CLKUPD and TICKINC leave `DIR`, and a tick that finds both flags set is in
none of the three phases. -/
theorem directionFollowsThePhase : Obligations.DirectionFollowsThePhase := by
  intro s t run h
  cases stepTo_of_step h with
  | reset hr => exact absurd hr (by simp [run.1])
  | halted _ hf => exact absurd hf (by simp [run.2.1])
  | stuck _ ha ht => simp [ha, ht]
  | fatal _ ha ht => simp [ha, ht]
  | completed _ logic => exact logic.dirFollows

end Sys2Proof.Machine
end

section
/-! PROOFS. The encoding family (spec/30_encoding.md): the operation map as data, and encoding and decoding through the
byte that carries a word. The key is that an operation's row is its pattern on the bits outside its don't-cares. -/

namespace Sys2Proof

/-! ## The operation map (R70) -/

/-- Every operation's words are the fillings of its row; a datapath function has none (R70, R71). -/
theorem decodeSel_eq_iff (i : Instr) : Laws.RowMatch.Statement i :=
  match i with
  | .idleWait => Laws.RowMatch.idleWait
  | .idleSample => Laws.RowMatch.idleSample
  | .txHold => Laws.RowMatch.txHold
  | .txHoldEnd => Laws.RowMatch.txHoldEnd
  | .txShift => Laws.RowMatch.txShift
  | .txShiftEnd => Laws.RowMatch.txShiftEnd
  | .ackWait => Laws.RowMatch.ackWait
  | .ackDone => Laws.RowMatch.ackDone
  | .fatal => Laws.RowMatch.fatal
  | .rawcat lo hi => Laws.RowMatch.rawcat lo hi
  | .tovolt raw => Laws.RowMatch.tovolt raw
  | .toangle v => Laws.RowMatch.toangle v
  | .v2a raw => Laws.RowMatch.v2a raw
  | .frload => Laws.RowMatch.frload
  | .fremit => Laws.RowMatch.fremit
  | .frshift => Laws.RowMatch.frshift
  | .frzero => Laws.RowMatch.frzero
  | .gate50 => Laws.RowMatch.gate50
  | .gate2 => Laws.RowMatch.gate2
  | .clkupd => Laws.RowMatch.clkupd
  | .tickinc => Laws.RowMatch.tickinc

/-- For an operation that has a word, its pattern decides (R70). -/
theorem decodeSel_eq_iff_of_word {i : Instr} {p : Sel} (word : encodeSel i = some p) (w : Sel) :
    decodeSel w = i ↔ w &&& ~~~(dontCare i) = p := by
  rw [decodeSel_eq_iff i w]
  simp [word, eq_comm]

/-- A row of the table holds its operation's pattern, and its mask is the bits that are no don't-cares (R70). -/
theorem selTable_row_eq : ∀ r ∈ selTable, encodeSel r.instr = some r.pattern ∧ ~~~(dontCare r.instr) = r.mask := by
  decide

/-- A row matches a word exactly if the decoder reads the word as the row's operation (R69, R70). -/
theorem matchesWord_iff {r : SelRow} (row : r ∈ selTable) (w : Sel) : r.matchesWord w = true ↔ decodeSel w = r.instr := by
  obtain ⟨word, mask⟩ := selTable_row_eq r row
  rw [decodeSel_eq_iff_of_word word, mask, SelRow.matchesWord, beq_iff_eq]

/-- The table has a row for everything the decoder answers (R69, R70). -/
theorem decodeSel_mem_selTable (w : Sel) : decodeSel w ∈ selTable.map SelRow.instr := by
  revert w
  decide

/-- No operation has two rows (R70). -/
theorem selTable_instr_nodup : (selTable.map SelRow.instr).Nodup := by
  decide

/-- Exactly one row matches a word: the matching rows are those of the decoded operation, which has one. -/
theorem matching_rows_eq (w : Sel) :
    (selTable.filter fun r => r.matchesWord w).map (fun r => r.instr) = [decodeSel w] :=
  calc (selTable.filter fun r => r.matchesWord w).map SelRow.instr
      = (selTable.filter fun r => r.instr == decodeSel w).map SelRow.instr := by
        congr 1
        refine List.filter_congr fun r row => ?_
        rw [Bool.eq_iff_iff, matchesWord_iff row, beq_iff_eq, eq_comm]
    _ = (selTable.map SelRow.instr).filter (· == decodeSel w) := by
        rw [List.filter_map]
        rfl
    _ = List.replicate ((selTable.map SelRow.instr).count (decodeSel w)) (decodeSel w) := List.filter_beq _
    _ = [decodeSel w] := by
        rw [List.count_eq_one_of_mem selTable_instr_nodup (decodeSel_mem_selTable w)]
        rfl

/-- Settles O24: each row from its operation's pattern, the last clause from `matching_rows_eq`. -/
theorem operationMapCoversEverySelector : Obligations.OperationMapCoversEverySelector := fun w =>
  ⟨decodeSel_eq_iff_of_word (i := .idleWait) rfl w, decodeSel_eq_iff_of_word (i := .idleSample) rfl w,
    decodeSel_eq_iff_of_word (i := .txHold) rfl w, decodeSel_eq_iff_of_word (i := .txHoldEnd) rfl w,
    decodeSel_eq_iff_of_word (i := .txShift) rfl w, decodeSel_eq_iff_of_word (i := .txShiftEnd) rfl w,
    decodeSel_eq_iff_of_word (i := .ackWait) rfl w, decodeSel_eq_iff_of_word (i := .ackDone) rfl w,
    decodeSel_eq_iff_of_word (i := .fatal) rfl w, matching_rows_eq w⟩

/-! ## The byte that carries a word (log entry 8) -/

/-- A byte whose two high bits are 0 carries a word, its low six bits. -/
theorem setWidth_extractLsb'_of_highBits {b : Byte} (high : b.extractLsb' 6 2 = 0) :
    (b.extractLsb' 0 6).setWidth 8 = b := by
  have small : b.toNat / 64 % 4 = 0 := by
    simpa [BitVec.extractLsb'_toNat, Nat.shiftRight_eq_div_pow] using congrArg BitVec.toNat high
  have := b.isLt
  apply BitVec.eq_of_toNat_eq
  simp only [BitVec.toNat_setWidth, BitVec.extractLsb'_toNat, Nat.shiftRight_zero]
  omega

/-- The byte of a word has its two high bits 0. -/
theorem extractLsb'_high_setWidth (w : Sel) : (w.setWidth 8 : Byte).extractLsb' 6 2 = 0 := by
  have := w.isLt
  apply BitVec.eq_of_toNat_eq
  simp only [BitVec.toNat_setWidth, BitVec.extractLsb'_toNat, Nat.shiftRight_eq_div_pow, BitVec.ofNat_eq_ofNat,
    BitVec.toNat_ofNat]
  omega

/-- The low six bits of a word's byte are the word. -/
theorem extractLsb'_low_setWidth (w : Sel) : (w.setWidth 8 : Byte).extractLsb' 0 6 = w := by
  have := w.isLt
  apply BitVec.eq_of_toNat_eq
  simp only [BitVec.toNat_setWidth, BitVec.extractLsb'_toNat, Nat.shiftRight_zero]
  omega

/-- The byte of a word decodes to the word's operation. -/
theorem decode_setWidth_cons (w : Sel) (rest : List Byte) :
    decode (w.setWidth 8 :: rest) = .ok (decodeSel w) rest := by
  simp only [decode, extractLsb'_high_setWidth, extractLsb'_low_setWidth, if_true]

/-- The decoder takes one byte, and it must be the byte of a word. -/
theorem decode_cons_eq_ok_iff {b : Byte} {rest rest' : List Byte} {i : Instr} :
    decode (b :: rest) = .ok i rest' ↔ ∃ w : Sel, b = w.setWidth 8 ∧ decodeSel w = i ∧ rest' = rest := by
  constructor
  · intro h
    rw [decode] at h
    split at h
    case isTrue high =>
      cases h
      exact ⟨_, (setWidth_extractLsb'_of_highBits high).symm, rfl, rfl⟩
    case isFalse => cases h
  · rintro ⟨w, rfl, rfl, rfl⟩
    exact decode_setWidth_cons w rest'

/-- Settles O25: fixed bytes, by evaluation. -/
theorem writtenOutWordsDecode : Obligations.WrittenOutWordsDecode := by
  unfold Obligations.WrittenOutWordsDecode
  decide

/-! ## Encoding (R70, R71) -/

/-- The encodings of an operation are the bytes of the fillings of its pattern. -/
theorem encodeWith_eq_some_iff {fill : Sel} {i : Instr} {bytes : List Byte} :
    encodeWith fill i = some bytes ↔
      ∃ p, encodeSel i = some p ∧ [(p ||| (fill &&& dontCare i)).setWidth 8] = bytes :=
  Option.map_eq_some_iff

/-- The pattern of an operation is a word of the operation: its don't-care bits are 0 (R70). -/
theorem pattern_and_not_dontCare {i : Instr} {p : Sel} (word : encodeSel i = some p) : p &&& ~~~(dontCare i) = p := by
  cases i with
  | idleWait | idleSample | txHold | txHoldEnd | txShift | txShiftEnd | ackWait | ackDone | fatal =>
    cases word
    rfl
  | rawcat | tovolt | toangle | v2a | frload | fremit | frshift | frzero | gate50 | gate2 | clkupd | tickinc =>
    cases word

/-- Filling the don't-care bits `d` of a pattern leaves its other bits. -/
theorem fill_and_not {p d : Sel} (pattern : p &&& ~~~d = p) (fill : Sel) : (p ||| (fill &&& d)) &&& ~~~d = p :=
  calc (p ||| (fill &&& d)) &&& ~~~d = p &&& ~~~d := by
        ext k
        simp only [BitVec.getElem_and, BitVec.getElem_or, BitVec.getElem_not]
        cases d[k] <;> simp
    _ = p := pattern

/-- A word is its own filling of the pattern it matches. -/
theorem and_not_or_and (w d : Sel) : (w &&& ~~~d) ||| (w &&& d) = w := by
  ext k
  simp only [BitVec.getElem_and, BitVec.getElem_or, BitVec.getElem_not]
  cases d[k] <;> simp

/-- Every filling of an operation's pattern decodes to the operation (R70). -/
theorem decodeSel_fill {i : Instr} {p : Sel} (word : encodeSel i = some p) (fill : Sel) :
    decodeSel (p ||| (fill &&& dontCare i)) = i :=
  (decodeSel_eq_iff_of_word word _).2 (fill_and_not (pattern_and_not_dontCare word) fill)

/-- A word encodes the operation it decodes to, with its own bits as the filling (R70). -/
theorem encodeWith_decodeSel (w : Sel) : encodeWith w (decodeSel w) = some [w.setWidth 8] := by
  obtain ⟨p, word, rfl⟩ := (decodeSel_eq_iff (decodeSel w) w).1 rfl
  exact encodeWith_eq_some_iff.2 ⟨_, word, by rw [and_not_or_and]⟩

/-- Settles O26: an encoding is the byte of a filled pattern, and a byte that decodes is the byte of a word. -/
theorem decodeInvertsEncode : Obligations.DecodeInvertsEncode := by
  constructor
  · intro i fill bytes rest _ encoded
    obtain ⟨p, word, rfl⟩ := encodeWith_eq_some_iff.1 encoded
    rw [List.singleton_append, decode_setWidth_cons, decodeSel_fill word]
  · intro b rest rest' i decoded
    obtain ⟨w, rfl, rfl, rfl⟩ := decode_cons_eq_ok_iff.1 decoded
    exact ⟨rfl, w, encodeWith_decodeSel w⟩

/-- A table word below 64 is a selector value (log entry 8, R68). -/
theorem decodeTableWord_eq {w : Nat} (small : w < 64) : decodeTableWord 8 w = some (decodeSel (BitVec.ofNat 6 w)) := by
  have carried : BitVec.ofNat 8 w = (BitVec.ofNat 6 w).setWidth 8 := by
    apply BitVec.eq_of_toNat_eq
    simp only [BitVec.toNat_setWidth, BitVec.toNat_ofNat]
    omega
  have bytes : bytesOf ((8 + 7) / 8) w = [(BitVec.ofNat 6 w).setWidth 8] := congrArg (fun b : Byte => [b]) carried
  rw [decodeTableWord, bytes, decode_setWidth_cons]

end Sys2Proof

namespace Sys2Proof.Machine

/-! ## Placing a word (log entry 8) -/

/-- The chosen counter has the gates asked for, if G50 implies G2, as it does for every counter (R72). -/
theorem gates_of_tickWithGates (old : Nat) {g50 g2 : Bool} (possible : g50 = true → g2 = true) :
    gate50Bit (tickWithGates old g50 g2) = g50 ∧ gate2Bit (tickWithGates old g50 g2) = g2 := by
  rw [tickWithGates]
  split
  case isTrue kept => simpa using kept
  case isFalse =>
    cases g50 with
    | true => exact ⟨rfl, (possible rfl).symm⟩
    | false => cases g2 <;> exact ⟨rfl, rfl⟩

/-- Each value of the zero condition is had at every count: the zero frame gives 1, the frame of ones 0 (R96). -/
theorem znBit_frameWithZn (tick : Nat) (old : Frame) (zn : Bool) : znBit tick (frameWithZn tick old zn) = zn := by
  rw [frameWithZn]
  split
  case isTrue kept => simpa using kept
  case isFalse =>
    cases zn with
    | true =>
      rw [if_pos rfl, znBit_iff]
      simp
    | false =>
      rw [if_neg Bool.false_ne_true, ← Bool.not_eq_true, znBit_iff]
      simp

/-- The gates chosen for a word are possible ones (R72). -/
theorem gatesFor_possible (w : Sel) : (gatesFor w).1 = true → (gatesFor w).2 = true := by
  have g2 : (gatesFor w).2 = ((gatesFor w).1 || w.getLsbD 2) := rfl
  intro g50
  rw [g2, g50, Bool.true_or]

/-- The word that a placed tick has. It is `w` but for the gate that an impossible `w` would have and its row does not
read (R72). -/
def placedWord (w : Sel) : Sel :=
  packSel (w.getLsbD 5) (w.getLsbD 4) (gatesFor w).1 (gatesFor w).2 (w.getLsbD 1) (w.getLsbD 0)

theorem selector_placeSelector (s : State) (w : Sel) : (s.placeSelector w).selector = placedWord w := by
  obtain ⟨g50, g2⟩ := gates_of_tickWithGates s.tick (gatesFor_possible w)
  rw [State.selector, Registers.selector, placedWord]
  simp only [State.placeSelector, g50, g2, znBit_frameWithZn]

/-- The row of a word does not read the gate that placing may change (R70, R72). -/
theorem decodeSel_placedWord (w : Sel) : decodeSel (placedWord w) = decodeSel w := by
  rw [placedWord, decodeSel_packSel, decodeSel, gatesFor]
  cases w.getLsbD 5 <;> cases w.getLsbD 4 <;> cases w.getLsbD 3 <;> cases w.getLsbD 2 <;> rfl

theorem placeSelector_running (s : State) (w : Sel) : (s.placeSelector w).Running :=
  ⟨rfl, rfl, rfl⟩

/-- Placing a word makes its operation the one the coming tick selects. -/
theorem op_placeSelector (s : State) (w : Sel) : (s.placeSelector w).op = decodeSel w := by
  rw [State.op, selector_placeSelector, decodeSel_placedWord]

/-- A table word below 64 is placed as the selector value it is. -/
theorem withFetchWord_eq (s : State) {w : Nat} (small : w < 64) :
    s.withFetchWord 8 w = s.placeSelector (BitVec.ofNat 6 w) := by
  rw [State.withFetchWord, State.placeTableWord, decodeTableWord_eq small]

/-- Settles O28, through the selector value placed. -/
theorem placedWordIsSelected : Obligations.PlacedWordIsSelected := by
  intro s w i small decoded
  rw [decodeTableWord_eq small] at decoded
  cases decoded
  rw [withFetchWord_eq s small, decode_setWidth_cons, ← State.op, op_placeSelector]
  exact ⟨placeSelector_running s _, rfl, rfl⟩

end Sys2Proof.Machine
end

section
/-! PROOFS. The mapper family (spec/40_signal_mapper.md). The functions over the rationals are brought to integer
arithmetic: where TOANGLE has a result its argument is not negative, so truncation is the floor, and on a sample's voltage
that floor is V2A's quotient. -/

namespace Sys2Proof.Machine

/-! ## What each function answers, executed as an instruction (log entry 6) -/

theorem exec_rawcat (lo hi : Byte) (s : State) :
    exec (.rawcat lo hi) s = .next (s.answer (.sample (rawcatValue lo hi))) := rfl

theorem exec_tovolt (raw : Sample) (s : State) :
    exec (.tovolt raw) s = .next (s.answer (.volts (toVolt raw.toInt))) := rfl

theorem exec_toangle (v : Rat) (s : State) : exec (.toangle v) s = .next (s.answer (.angle (toAngle v))) := rfl

theorem exec_v2a (raw : Sample) (s : State) : exec (.v2a raw) s = .next (s.answer (.angle (v2aAngle raw.toInt))) := rfl

/-- Leaving an answer writes `fnOut` and nothing else. -/
theorem State.answer_eq (s : State) (r : FnOut) : s.answer r = { s with fnOut := r } := rfl

/-! ## RAWCAT and TOVOLT -/

/-- RAWCAT reads its pattern in two's complement (R80, log entry 11). -/
theorem rawcatValue_eq (lo hi : Byte) : rawcatValue lo hi =
    if lo.toNat + hi.toNat * 256 < 32768 then ((lo.toNat + hi.toNat * 256 : Nat) : Int)
    else ((lo.toNat + hi.toNat * 256 : Nat) : Int) - 65536 := by
  rw [rawcatValue, BitVec.toInt_eq_toNat_cond, rawPattern_toNat]
  exact if_congr (by omega) rfl rfl

/-- Settles O11, by RAWCAT's value in two's complement. -/
theorem rawcatReadsTheBytesAsASignedNumber : Obligations.RawcatReadsTheBytesAsASignedNumber := by
  intro lo hi s
  rw [exec_rawcat, rawcatValue_eq, State.answer_eq]

/-- TOVOLT as one fraction (R81). -/
theorem toVolt_eq (raw : Int) : toVolt raw = 5 * (raw : Rat) / 32768 := by
  simp only [toVolt, fullScale, vRange]
  push_cast
  ring

/-- A sample's voltage lies in [-5, 5) (R81). -/
theorem toVolt_bounds (p : Sample) : -5 ≤ toVolt p.toInt ∧ toVolt p.toInt < 5 := by
  obtain ⟨lower, upper⟩ := sample_toInt_bounds p
  have lower' : (-32768 : Rat) ≤ p.toInt := by exact_mod_cast lower
  have upper' : (p.toInt : Rat) ≤ 32767 := by exact_mod_cast upper
  rw [toVolt_eq]
  constructor <;> linarith

/-- Settles O12, by TOVOLT's fraction and its bounds on a sample. -/
theorem tovoltDividesExactly : Obligations.TovoltDividesExactly := by
  intro raw s
  rw [exec_tovolt, State.answer_eq, ← toVolt_eq]
  exact ⟨rfl, toVolt_bounds raw⟩

/-! ## TOANGLE -/

/-- Truncation toward zero is the floor on what is not negative (00_scope.md R9). -/
theorem truncRat_eq_floor {x : Rat} (nonneg : 0 ≤ x) : truncRat x = ⌊x⌋ := by
  rw [truncRat, Int.tdiv_eq_ediv_of_nonneg (Rat.num_nonneg.2 nonneg), Rat.floor_def']

/-- Up to +5 V the number TOANGLE truncates is not negative (R82). -/
theorem toAngleInt_eq_floor {v : Rat} (upper : v ≤ 5) : toAngleInt v = ⌊150 - (v + 5) * 15⌋ := by
  have nonneg : 0 ≤ 150 - (v + 5) * 15 := by linarith
  rw [← truncRat_eq_floor nonneg]
  simp only [toAngleInt, angleMax, vRange, degPerVolt, Nat.cast_ofNat]

/-- In range TOANGLE's byte is the narrowed integer (R82, R84). -/
theorem toAngle_eq {v : Rat} (lower : -5 ≤ v) (upper : v ≤ 5) :
    toAngle v = BitVec.ofInt 8 ⌊150 - (v + 5) * 15⌋ := by
  rw [toAngle, if_pos ((voltageInRange_iff v).2 ⟨lower, upper⟩), toAngleInt_eq_floor upper]

/-- Settles O13: in range the truncated number lies in 0..150, so truncation is the floor. -/
theorem toangleTruncatesTowardZero : Obligations.ToangleTruncatesTowardZero := by
  intro v s lower upper
  rw [exec_toangle, toAngle_eq lower upper, State.answer_eq]
  refine ⟨rfl, Int.floor_nonneg.2 (by linarith), ?_⟩
  exact Int.floor_le_iff.2 (by push_cast; linarith)

/-- Settles O14: TOANGLE answers on every voltage; outside its range the byte is the free value of log entry 7. -/
theorem toangleOutsideTheRangeStillAnswers : Obligations.ToangleOutsideTheRangeStillAnswers :=
  fun v s _ => ⟨toAngle v, exec_toangle v s⟩

/-! ## V2A -/

/-- Settles O15: the quotient is at most 150, so the low byte loses nothing (R89). -/
theorem v2aIsFloorDivision : Obligations.V2aIsFloorDivision := by
  intro raw s
  have value := v2aAngle_toNat raw
  obtain ⟨lower, upper⟩ := sample_toInt_bounds raw
  rw [exec_v2a, State.answer_eq, ← v2aAngle_eq]
  exact ⟨rfl, by omega, by omega, value⟩

/-- On a sample's voltage TOANGLE's floor is V2A's quotient (R85). -/
theorem floor_toVolt_eq (raw : Int) : ⌊150 - (toVolt raw + 5) * 15⌋ = (2457600 - 75 * raw) / 32768 :=
  calc ⌊150 - (toVolt raw + 5) * 15⌋
      = ⌊((2457600 - 75 * raw : Int) : Rat) / (32768 : Nat)⌋ := by
        congr 1
        rw [toVolt_eq]
        push_cast
        ring
    _ = (2457600 - 75 * raw) / 32768 := Rat.floor_intCast_div_natCast _ _

/-- V2A is TOANGLE after TOVOLT (R85). -/
theorem toAngle_toVolt (p : Sample) : toAngle (toVolt p.toInt) = v2aAngle p.toInt := by
  obtain ⟨lower, upper⟩ := toVolt_bounds p
  rw [toAngle_eq lower upper.le, floor_toVolt_eq, v2aAngle_eq]

/-- Settles O49: the voltage TOVOLT leaves is one on which TOANGLE is V2A. -/
theorem v2aIsToangleAfterTovolt : Obligations.V2aIsToangleAfterTovolt := by
  intro s raw
  refine ⟨s.answer (.volts (toVolt raw.toInt)), toVolt raw.toInt, exec_tovolt raw s, State.answer_fnOut _ _, ?_⟩
  rw [exec_toangle, exec_v2a, toAngle_toVolt]

/-! ## The shape of V2A (R86, R87) -/

/-- The samples whose angle is at least `k`: the quotient compared without the division. -/
theorem le_v2aAngle_iff (p : Sample) (k : Nat) :
    k ≤ (v2aAngle p.toInt).toNat ↔ 32768 * (k : Int) ≤ 2457600 - 75 * p.toInt := by
  have value := v2aAngle_toNat p
  omega

/-- The samples whose angle is `k`. -/
theorem v2aAngle_eq_iff (p : Sample) (k : Nat) : (v2aAngle p.toInt).toNat = k ↔
    32768 * (k : Int) ≤ 2457600 - 75 * p.toInt ∧ 2457600 - 75 * p.toInt < 32768 * (k + 1 : Int) := by
  have value := v2aAngle_toNat p
  omega

/-- A larger sample never has a larger angle (R86). -/
theorem v2aAngle_antitone {p q : Sample} (h : p.toInt ≤ q.toInt) :
    (v2aAngle q.toInt).toNat ≤ (v2aAngle p.toInt).toNat := by
  have reached := (le_v2aAngle_iff q _).1 le_rfl
  exact (le_v2aAngle_iff p _).2 (by omega)

/-- Settles O50: each interval is the one of `v2aAngle_eq_iff`, cut at the ends of the 16-bit range. -/
theorem angleRangeAndShape : Obligations.AngleRangeAndShape := by
  refine ⟨v2aAngle_toNat_le, fun p q => v2aAngle_antitone, fun p => ?threshold, fun p => ?intervals⟩
  case threshold =>
    rw [le_v2aAngle_iff]
    omega
  case intervals =>
    have bounds := sample_toInt_bounds p
    simp only [v2aAngle_eq_iff]
    omega

end Sys2Proof.Machine
end

section
/-! PROOFS. The frame family (spec/41_frame.md): the functions of the shift register, the bit length of a frame, and a
whole transmission, sent slot by slot. A slot is an odd TRANSMIT tick that holds and the even one after it that emits. -/

namespace Sys2Proof.Machine

/-! ## The functions as instructions, and the bits they give -/

theorem exec_frload (s : State) : exec .frload s = .next s.loadFrame := rfl

theorem exec_fremit (s : State) : exec .fremit s = .next s.emit := rfl

theorem exec_frshift (s : State) : exec .frshift s = .next s.shiftFrame := rfl

theorem exec_frzero (s : State) : exec .frzero s = .next (s.answer (.bit (frameIsZero s.frame))) := rfl

theorem loadedFrame_eq (a : Byte) : loadedFrame a = BitVec.ofNat 9 (511 - 2 * a.toNat) := by
  rw [← loadedFrame_toNat, BitVec.ofNat_toNat, BitVec.setWidth_eq]

theorem lineByte_eq (f : Frame) : lineByte f = BitVec.ofNat 8 (255 - f.toNat % 256) := by
  rw [← lineByte_toNat, BitVec.ofNat_toNat, BitVec.setWidth_eq]

theorem shiftedFrame_eq (f : Frame) : shiftedFrame f = BitVec.ofNat 9 (f.toNat / 2) := by
  rw [← shiftedFrame_toNat, BitVec.ofNat_toNat, BitVec.setWidth_eq]

/-- The framing bit of a loaded frame (R92). -/
theorem loadedFrame_getLsbD_zero (a : Byte) : (loadedFrame a).getLsbD 0 = true := by
  simp [loadedFrame, framingBit]

/-- The bits of a loaded frame above the framing bit are the angle's, complemented (R92, 30_encoding.md R62). -/
theorem loadedFrame_getLsbD_succ (a : Byte) {k : Nat} (hk : k < 8) :
    (loadedFrame a).getLsbD (k + 1) = !a.getLsbD k := by
  simp [loadedFrame, hk]

/-- A shift brings every bit one place down (R94). -/
theorem shiftedFrame_getLsbD (f : Frame) (k : Nat) : (shiftedFrame f).getLsbD k = f.getLsbD (k + 1) := by
  simp [shiftedFrame, Nat.add_comm]

/-- Settles O16, from the loaded frame's number and bits. -/
theorem frloadComplementsTheAngle : Obligations.FrloadComplementsTheAngle := by
  intro s
  refine ⟨s.loadFrame, exec_frload s, ?_, loadedFrame_getLsbD_zero _, loadedFrame_ne_zero _,
    fun k hk => loadedFrame_getLsbD_succ _ hk⟩
  rw [← loadedFrame_eq]
  rfl

/-- Settles O17. -/
theorem fremitComplementsTheLowByte : Obligations.FremitComplementsTheLowByte := by
  intro s
  refine ⟨s.emit, exec_fremit s, ?_, lineByte_getLsbD_zero _⟩
  rw [← lineByte_eq]
  rfl

/-- Settles O18: the bit that enters at the top is the one past the old frame's last. -/
theorem frshiftHalvesTheFrame : Obligations.FrshiftHalvesTheFrame := by
  intro s
  refine ⟨s.shiftFrame, exec_frshift s, ?_, ?_, fun k _ => shiftedFrame_getLsbD _ k⟩
  · rw [← shiftedFrame_eq]
    rfl
  · exact (shiftedFrame_getLsbD _ 8).trans (BitVec.getLsbD_of_ge _ _ le_rfl)

/-- Settles O19. -/
theorem frzeroTestsAllNineBits : Obligations.FrzeroTestsAllNineBits := by
  intro s
  have zero : frameIsZero s.frame = decide (s.frame.toNat = 0) := by
    rw [Bool.eq_iff_iff, frameIsZero_iff, decide_eq_true_iff]
  rw [exec_frzero, State.answer_eq, zero]

/-! ## The bit length (R97) -/

/-- Position `k` lies within the bit length exactly if the frame reaches `2 ^ k`. -/
theorem lt_frameLength_iff (f : Frame) (k : Nat) : k < frameLength f ↔ 2 ^ k ≤ f.toNat := by
  unfold frameLength
  split_ifs with zero
  · simp [zero]
  · rw [Nat.lt_succ_iff, Nat.le_log2 (BitVec.toNat_ne_iff_ne.2 zero)]

theorem frameLength_eq_zero_iff (f : Frame) : frameLength f = 0 ↔ f.toNat = 0 := by
  have reached := lt_frameLength_iff f 0
  omega

theorem frameLength_le_one_iff (f : Frame) : frameLength f ≤ 1 ↔ f.toNat ≤ 1 := by
  have reached := lt_frameLength_iff f 1
  omega

theorem frameLength_le (f : Frame) : frameLength f ≤ 9 := by
  have short := mt (lt_frameLength_iff f 9).1 (by have := f.isLt; omega)
  omega

/-- A shift takes one bit off a nonzero frame (R94). -/
theorem frameLength_shiftedFrame (f : Frame) : frameLength (shiftedFrame f) = frameLength f - 1 := by
  refine eq_of_forall_lt_iff fun k => ?_
  rw [lt_frameLength_iff, shiftedFrame_toNat, Nat.le_div_iff_mul_le two_pos, ← pow_succ, ← lt_frameLength_iff,
    Nat.lt_sub_iff_add_lt]

/-- No bit is set past the bit length. -/
theorem getLsbD_of_frameLength_le {f : Frame} {k : Nat} (h : frameLength f ≤ k) : f.getLsbD k = false :=
  Nat.testBit_lt_two_pow (not_le.1 (mt (lt_frameLength_iff f k).2 (not_lt.2 h)))

/-- The last bit within the bit length is set: the leading 1 leaves the frame last (R98). -/
theorem getLsbD_last {f : Frame} (nonzero : f ≠ 0) : f.getLsbD (frameLength f - 1) = true := by
  rw [frameLength, if_neg nonzero, Nat.add_sub_cancel]
  exact Nat.testBit_log2 (BitVec.toNat_ne_iff_ne.2 nonzero)

/-- A loaded frame keeps its top bit exactly if the angle's bit 7 is 0 (R97). -/
theorem frameLength_loadedFrame_eq_nine_iff (a : Byte) : frameLength (loadedFrame a) = 9 ↔ a.toNat ≤ 127 := by
  have upper := frameLength_le (loadedFrame a)
  have top := lt_frameLength_iff (loadedFrame a) 8
  rw [loadedFrame_toNat] at top
  omega

/-- Settles O52: the places 0, 7 and 8 of the frame decide. -/
theorem loadedFrameLength : Obligations.LoadedFrameLength := by
  intro s t h
  cases (exec_frload s).symm.trans h
  have nine := frameLength_loadedFrame_eq_nine_iff s.angle
  have upper := frameLength_le (loadedFrame s.angle)
  have lower := lt_frameLength_iff (loadedFrame s.angle) 0
  have seventh := lt_frameLength_iff (loadedFrame s.angle) 7
  rw [loadedFrame_toNat] at lower seventh
  have byte := s.angle.isLt
  refine ⟨nine, fun above below => ?_, ?_, upper⟩ <;>
    simp only [State.loadFrame_toRegisters, Registers.loadFrame_frame] <;> omega

/-! ## The levels of a frame -/

/-- The levels a transmission of `f` puts on the line: the complements of its bits, from bit 0 up to its leading 1 (R93,
R97). -/
def sentLevels (f : Frame) : List Bool :=
  (List.range (frameLength f)).map fun k => !f.getLsbD k

theorem length_sentLevels (f : Frame) : (sentLevels f).length = frameLength f := by
  simp [sentLevels]

theorem sentLevels_of_frameLength_eq_zero {f : Frame} (h : frameLength f = 0) : sentLevels f = [] := by
  simp [sentLevels, h]

/-- The level of bit 0 goes out first, then those of the shifted frame. -/
theorem sentLevels_eq_cons {f : Frame} (h : frameLength f ≠ 0) :
    sentLevels f = (!f.getLsbD 0) :: sentLevels (shiftedFrame f) := by
  obtain ⟨n, hn⟩ := Nat.exists_eq_succ_of_ne_zero h
  simp [sentLevels, frameLength_shiftedFrame, hn, List.range_succ_eq_map, shiftedFrame_getLsbD, Function.comp_def]

/-- With missing slots taken as 1, every slot is the complement of its frame bit (R99): past the leading 1 the frame's bits
are 0. -/
theorem sentLevels_getD (f : Frame) (k : Nat) : (sentLevels f).getD k true = !f.getLsbD k := by
  by_cases hk : k < frameLength f
  · simp [sentLevels, List.getD_eq_getElem?_getD, hk]
  · have past := not_lt.1 hk
    simp [sentLevels, List.getD_eq_getElem?_getD, past, getLsbD_of_frameLength_le past]

theorem sentLevels_getLast? {f : Frame} (nonzero : f ≠ 0) : (sentLevels f).getLast? = some false := by
  have length : frameLength f ≠ 0 := mt (frameLength_eq_zero_iff f).1 (BitVec.toNat_ne_iff_ne.2 nonzero)
  simp [sentLevels, List.getLast?_range, length, getLsbD_last nonzero]

/-- For a loaded frame these are the angle's slots: two complements cancel (30_encoding.md R63, R64). -/
theorem sentLevels_loadedFrame (a : Byte) :
    sentLevels (loadedFrame a) = slotLevels a (frameLength (loadedFrame a)) := by
  refine List.map_congr_left fun k mem => ?_
  have within := (List.mem_range.1 mem).trans_le (frameLength_le _)
  cases k with
  | zero => simp [loadedFrame_getLsbD_zero]
  | succ k => simp [loadedFrame_getLsbD_succ a (Nat.lt_of_succ_lt_succ within)]

/-- A number's low bits with their weights sum up to it. -/
theorem sum_testBit (x n : Nat) :
    ((List.range n).map fun k => if x.testBit k then 2 ^ k else 0).sum = x % 2 ^ n := by
  induction n with
  | zero => simp [Nat.mod_one]
  | succ n ih =>
    rw [List.range_succ, List.map_append, List.sum_append, ih, Nat.mod_pow_succ, List.map_singleton,
      List.sum_singleton, Nat.testBit_eq_decide_div_mod_eq]
    rcases Nat.mod_two_eq_zero_or_one (x / 2 ^ n) with h | h <;> simp [h]

/-- A receiver that takes missing slots as 1 recovers the angle (R99). -/
theorem decodeLevels_sentLevels (a : Byte) : decodeLevels (sentLevels (loadedFrame a)) = a.toNat := by
  have slots : ∀ k ∈ List.range 8,
      (if (sentLevels (loadedFrame a)).getD (k + 1) true then 2 ^ k else 0) =
        if a.toNat.testBit k then 2 ^ k else 0 := by
    intro k mem
    rw [sentLevels_getD, loadedFrame_getLsbD_succ a (List.mem_range.1 mem), Bool.not_not]
    rfl
  rw [decodeLevels, List.map_congr_left slots, sum_testBit, Nat.mod_eq_of_lt a.isLt]

/-! ## Runs of ticks, and the levels they put on the line -/

theorem runTicks_cons {s t : State} {i : Inputs} (h : step (s.withInputs i) = .next t) (is : List Inputs) :
    runTicks (i :: is) s = runTicks is t := by
  simp [runTicks, h]

theorem levelsOf_cons {s t : State} {i : Inputs} (h : step (s.withInputs i) = .next t) (is : List Inputs) :
    levelsOf (i :: is) s =
      if (s.withInputs i).emits then t.dout.getLsbD 0 :: levelsOf is t else levelsOf is t := by
  simp [levelsOf, h]

/-- A TRANSMIT tick puts a level on the line exactly if its count is even (R107, R108, 20_memory.md R53). -/
theorem emits_transmit {s : State} (run : s.Running) (phase : s.InTransmit) :
    s.emits = decide (s.tick % 2 = 0) := by
  obtain ⟨hr, hf, hq⟩ := run
  obtain ⟨ha, ht⟩ := phase
  rw [State.emits, op_transmit ha ht, hr, hf, hq]
  split_ifs with even <;> simp [even]

/-- After the state logic of a completed tick come CLKUPD and TICKINC, and nothing else but new inputs (R126). -/
theorem TickLogic.afterTick {s u : State} (logic : TickLogic s u) : AfterTick s u.finishTick.redraw u.regs := by
  have params : u.params = s.params := congrArg Bench.params logic.toBench_eq
  have fnOut : u.fnOut = s.fnOut := congrArg Bench.fnOut logic.toBench_eq
  refine ⟨?_, params, fnOut⟩
  rw [← logic.tick_eq, ← params, ← clockLevel_eq]
  rfl

/-- The registers after the state logic of an even TRANSMIT tick: the frame's byte goes out, the frame shifts, and the
phase goes by whether the shifted frame is zero (R107, R108). -/
def Registers.sendSlot (b : Registers) : Registers :=
  { b with
    dout := lineByte b.frame
    frame := shiftedFrame b.frame
    txf := !decide (b.frame.toNat ≤ 1)
    ackf := decide (b.frame.toNat ≤ 1) }

/-- An odd TRANSMIT tick holds: no level goes out (R106). -/
theorem holds_tick {s : State} {i : Inputs} (hi : i.rst = false) (ready : s.Ready) (phase : s.InTransmit)
    (odd : s.tick % 2 ≠ 0) (nonzero : s.frame.toNat ≠ 0) :
    ∃ t, AfterTick s t s.regs ∧ ∀ is,
      runTicks (i :: is) s = runTicks is t ∧ levelsOf (i :: is) s = levelsOf is t := by
  have silent : (s.withInputs i).emits = false :=
    (emits_transmit (s := s.withInputs i) ⟨hi, ready⟩ phase).trans (decide_eq_false odd)
  obtain ⟨hf, hq⟩ := ready
  obtain ⟨ha, ht⟩ := phase
  have held : step (s.withInputs i) = .next (s.withInputs i).finishTick.redraw :=
    step_txHold hi hf hq ha ht odd nonzero
  refine ⟨_, (TickLogic.txHold (s := s.withInputs i) ha ht odd nonzero).afterTick,
    fun is => ⟨runTicks_cons held is, ?_⟩⟩
  simp [levelsOf_cons held, silent]

/-- An even TRANSMIT tick sends the complement of frame bit 0, whether it ends the transmission or not (R107, R108). -/
theorem sends_tick {s : State} {i : Inputs} (hi : i.rst = false) (ready : s.Ready) (phase : s.InTransmit)
    (even : s.tick % 2 = 0) :
    ∃ t, AfterTick s t s.regs.sendSlot ∧ ∀ is,
      runTicks (i :: is) s = runTicks is t ∧ levelsOf (i :: is) s = (!s.frame.getLsbD 0) :: levelsOf is t := by
  have emits : (s.withInputs i).emits = true :=
    (emits_transmit (s := s.withInputs i) ⟨hi, ready⟩ phase).trans (decide_eq_true even)
  obtain ⟨u, logic, sent, regs⟩ : ∃ u, TickLogic (s.withInputs i) u ∧
      step (s.withInputs i) = .next u.finishTick.redraw ∧ u.regs = s.regs.sendSlot := by
    obtain ⟨hf, hq⟩ := ready
    obtain ⟨ha, ht⟩ := phase
    by_cases last : s.frame.toNat ≤ 1
    · refine ⟨_, .txShiftEnd ha ht even last, step_txShiftEnd hi hf hq ha ht even last, ?_⟩
      ext1 <;> simp [Registers.sendSlot, last]
    · refine ⟨_, .txShift ha ht even last, step_txShift hi hf hq ha ht even last, ?_⟩
      ext1 <;> simp [Registers.sendSlot, last, ha, ht]
  have level : u.dout.getLsbD 0 = !s.frame.getLsbD 0 :=
    (congrArg (fun b => b.dout.getLsbD 0) regs).trans (lineByte_getLsbD_zero s.frame)
  refine ⟨_, regs ▸ logic.afterTick, fun is => ⟨runTicks_cons sent is, ?_⟩⟩
  rw [levelsOf_cons sent, if_pos emits]
  exact congrArg (· :: _) level

/-! ## A slot, and the whole frame -/

/-- The block is about to send a slot: an odd TRANSMIT tick is next, with something left in the frame. -/
structure State.AtSlot (s : State) : Prop where
  ready : s.Ready
  phase : s.InTransmit
  odd : s.tick % 2 = 1
  width : 1 ≤ s.params.tickWidth
  nonzero : s.frame.toNat ≠ 0

/-- `t` is `s` two ticks later, a slot sent (42_link_fsm.md R114). -/
structure SlotSent (s t : State) : Prop where
  params : t.params = s.params
  regs : t.regs = { s.regs.sendSlot with clk := false, tick := (s.tick + 2) % 2 ^ s.params.tickWidth }

/-- The two ticks of a slot put the complement of frame bit 0 on the line, in the second of them. -/
theorem sends_slot {s : State} (start : s.AtSlot) {i j : Inputs} (hi : i.rst = false) (hj : j.rst = false) :
    ∃ t, SlotSent s t ∧ ∀ is,
      runTicks (i :: j :: is) s = runTicks is t ∧
      levelsOf (i :: j :: is) s = (!s.frame.getLsbD 0) :: levelsOf is t := by
  obtain ⟨ready, phase, odd, width, nonzero⟩ := start
  obtain ⟨u, ⟨held, params, -⟩, first⟩ := holds_tick hi ready phase (by omega) nonzero
  have tick : u.tick = (s.tick + 1) % 2 ^ s.params.tickWidth := congrArg Registers.tick held
  have even : u.tick % 2 = 0 := by
    rw [tick, parity_of_wrapped _ _ width]
    omega
  have ready' : u.Ready :=
    ⟨(congrArg Registers.fault held).trans ready.1, (congrArg Registers.sampleReq held).trans ready.2⟩
  have phase' : u.InTransmit :=
    ⟨(congrArg Registers.ackf held).trans phase.1, (congrArg Registers.txf held).trans phase.2⟩
  have frame : u.frame = s.frame := congrArg (fun b => b.frame) held
  obtain ⟨t, ⟨sent, params', -⟩, second⟩ := sends_tick hj ready' phase' even
  refine ⟨t, ⟨params'.trans params, ?_⟩, fun is => ?_⟩
  · have tick' : (u.tick + 1) % 2 ^ u.params.tickWidth = (s.tick + 2) % 2 ^ s.params.tickWidth := by
      rw [tick, params, Nat.mod_add_mod]
    rw [sent, tick', held]
    simp [even, Registers.sendSlot]
  · obtain ⟨ticks, levels⟩ := first (j :: is)
    obtain ⟨ticks', levels'⟩ := second is
    exact ⟨ticks.trans ticks', by rw [levels, levels', frame]⟩

/-- With bits left in the frame the block is at its next slot (R107). -/
theorem SlotSent.atSlot {s t : State} (sent : SlotSent s t) (start : s.AtSlot) (more : ¬s.frame.toNat ≤ 1) :
    t.AtSlot := by
  obtain ⟨params, regs⟩ := sent
  have tick : t.tick = (s.tick + 2) % 2 ^ s.params.tickWidth := congrArg Registers.tick regs
  have frame : t.frame = shiftedFrame s.frame := congrArg Registers.frame regs
  have ackf : t.ackf = false := (congrArg Registers.ackf regs).trans (decide_eq_false more)
  have txf : t.txf = true := (congrArg Registers.txf regs).trans (by simp [Registers.sendSlot, more])
  refine
    { ready := ⟨(congrArg Registers.fault regs).trans start.ready.1,
        (congrArg Registers.sampleReq regs).trans start.ready.2⟩
      phase := ⟨ackf, txf⟩
      odd := ?_
      width := params ▸ start.width
      nonzero := ?_ }
  · rw [tick, parity_of_wrapped _ _ start.width, Nat.add_mod_right, start.odd]
  · rw [frame, shiftedFrame_toNat]
    omega

/-- The registers after the whole transmission of a frame of bit length `length` (R98, 42_link_fsm.md R114). -/
def State.sentRegs (s : State) (length : Nat) : Registers :=
  { s.regs with
    txf := false, ackf := true, frame := 0, dout := 0xFE, clk := false
    tick := (s.tick + 2 * length) % 2 ^ s.params.tickWidth }

/-- The last slot ends the transmission (R108). -/
theorem SlotSent.regs_of_last {s t : State} (sent : SlotSent s t) (last : s.frame.toNat = 1) :
    t.regs = s.sentRegs 1 := by
  have empty : shiftedFrame s.frame = 0 := (shiftedFrame_eq_zero_iff _).2 last.le
  rw [sent.regs]
  simp [State.sentRegs, Registers.sendSlot, last, empty, lineByte_of_toNat_eq_one last]

/-- Any other slot leaves the rest of the transmission to do (R107). -/
theorem SlotSent.sentRegs_eq {s t : State} (sent : SlotSent s t) (length : Nat) :
    t.sentRegs length = s.sentRegs (length + 1) := by
  obtain ⟨params, regs⟩ := sent
  have tick : (t.tick + 2 * length) % 2 ^ t.params.tickWidth =
      (s.tick + 2 * (length + 1)) % 2 ^ s.params.tickWidth := by
    have two : t.tick = (s.tick + 2) % 2 ^ s.params.tickWidth := congrArg Registers.tick regs
    rw [params, two, Nat.mod_add_mod, Nat.mul_succ, Nat.add_right_comm, Nat.add_assoc]
  rw [State.sentRegs, tick, regs]
  rfl

/-- The transmission of a whole frame, by induction on its bit length, a slot per bit (R97, R98, 42_link_fsm.md R114). -/
theorem sends_frame {n : Nat} {s : State} {is : List Inputs} (start : s.AtSlot) (length : frameLength s.frame = n + 1)
    (quiet : NoReset is) (ticks : is.length = 2 * (n + 1)) :
    levelsOf is s = sentLevels s.frame ∧
      ∃ t, runTicks is s = .next t ∧ t.params = s.params ∧ t.regs = s.sentRegs (n + 1) := by
  induction n generalizing s is with
  | zero =>
    obtain ⟨i, j, rfl⟩ := List.length_eq_two.1 ticks
    obtain ⟨t, sent, outcome⟩ := sends_slot start (quiet i (by simp)) (quiet j (by simp))
    obtain ⟨run, levels⟩ := outcome []
    have last : s.frame.toNat = 1 :=
      le_antisymm ((frameLength_le_one_iff _).1 length.le) (Nat.one_le_iff_ne_zero.2 start.nonzero)
    have empty : frameLength (shiftedFrame s.frame) = 0 := by simp [frameLength_shiftedFrame, length]
    rw [levels, sentLevels_eq_cons (by omega), sentLevels_of_frameLength_eq_zero empty]
    exact ⟨rfl, t, run, sent.params, sent.regs_of_last last⟩
  | succ n ih =>
    match is, ticks with
    | i :: j :: rest, ticks =>
      obtain ⟨t, sent, outcome⟩ := sends_slot start (quiet i (by simp)) (quiet j (by simp))
      obtain ⟨run, levels⟩ := outcome rest
      have more : ¬s.frame.toNat ≤ 1 := mt (frameLength_le_one_iff _).2 (by omega)
      have frame : t.frame = shiftedFrame s.frame := congrArg Registers.frame sent.regs
      have shorter : frameLength t.frame = n + 1 := by rw [frame, frameLength_shiftedFrame, length]; rfl
      obtain ⟨levels', u, run', params, regs⟩ := ih (is := rest) (sent.atSlot start more) shorter
        (fun k mem => quiet k (by simp [mem])) (by simpa [Nat.mul_succ] using ticks)
      rw [levels, levels', frame, ← sentLevels_eq_cons (by omega)]
      exact ⟨rfl, u, run.trans run', params.trans sent.params, regs.trans (sent.sentRegs_eq _)⟩

/-! ## The statements about transmissions -/

/-- The number that R97 gives a frame names the loaded frame of the angle. -/
theorem eq_loadedFrame {f : Frame} {a : Byte} (h : f.toNat = 511 - 2 * a.toNat) : f = loadedFrame a :=
  BitVec.eq_of_toNat_eq (h.trans (loadedFrame_toNat a).symm)

/-- Settles O53, from the transmission of any frame. -/
theorem transmissionSendsTheAngle : Obligations.TransmissionSendsTheAngle := by
  intro s a is ready phase odd value width quiet ticks
  have loaded := eq_loadedFrame value
  have nonzero : s.frame.toNat ≠ 0 := BitVec.toNat_ne_iff_ne.2 (loaded ▸ loadedFrame_ne_zero a)
  obtain ⟨n, length⟩ := Nat.exists_eq_succ_of_ne_zero (mt (frameLength_eq_zero_iff s.frame).1 nonzero)
  rw [length] at ticks ⊢
  obtain ⟨levels, sent⟩ := sends_frame ⟨ready, phase, odd, width, nonzero⟩ length quiet ticks
  rw [levels, ← length, loaded, sentLevels_loadedFrame]
  exact ⟨rfl, loaded ▸ length ▸ sent⟩

/-- Settles O54: by O53 the levels are those of the loaded frame. -/
theorem receiverRecoversTheAngle : Obligations.ReceiverRecoversTheAngle := by
  intro s a is ready phase odd value width quiet ticks
  obtain ⟨levels, -⟩ := transmissionSendsTheAngle s a is ready phase odd value width quiet ticks
  rw [eq_loadedFrame value, ← sentLevels_loadedFrame] at levels
  have nonempty : frameLength (loadedFrame a) ≠ 0 :=
    mt (frameLength_eq_zero_iff _).1 (BitVec.toNat_ne_iff_ne.2 (loadedFrame_ne_zero a))
  rw [levels]
  refine ⟨decodeLevels_sentLevels a, ?_, sentLevels_getLast? (loadedFrame_ne_zero a), fun small => ?_⟩
  · rw [sentLevels_eq_cons nonempty, loadedFrame_getLsbD_zero]
    rfl
  · rw [length_sentLevels, (frameLength_loadedFrame_eq_nine_iff a).2 small]

/-- Settles O55: only TX_SHIFT_END and TX_HOLD_END set `ACKF`; the second needs a zero frame, which the invariants shut out
in TRANSMIT, and in the first the frame is its leading 1 alone. -/
theorem acknowledgeStartsFromLevelZero : Obligations.AcknowledgeStartsFromLevelZero := by
  intro s t inv h before after
  obtain ⟨-, frame, -, -, -, -, -, drives, -⟩ := inv
  have nonzero (ht : s.txf = true) : s.frame.toNat ≠ 0 := BitVec.toNat_ne_iff_ne.2 (frame.2 ht)
  cases stepTo_of_step h with
  | reset => simp at after
  | halted | stuck | fatal => simp [before] at after
  | completed run logic =>
    cases logic with
    | txShiftEnd _ ht _ hz =>
      have one : s.frame.toNat = 1 := by
        have := nonzero ht
        omega
      exact ⟨lineByte_of_toNat_eq_one one, drives ht⟩
    | txHoldEnd _ ht _ hz => exact absurd hz (nonzero ht)
    | idleWait | idleSample | txHold | txShift | ackWait | ackDone => simp [before] at after

end Sys2Proof.Machine
end

section
/-! PROOFS. The nine tick operations (spec/42_link_fsm.md R103 to R112). Each statement has three parts: the effect as an
instruction, the words of the operation's row, and the tick that performs it, which comes from its `TickLogic`. -/

namespace Sys2Proof.Machine

/-! ## The tick of a state logic -/

/-- The converse of `stepTo_of_step` for a tick that completes: the state logic, CLKUPD and TICKINC are the step (R126). -/
theorem TickLogic.step_eq {s u : State} (logic : TickLogic s u) (run : s.Running) :
    step s = .next u.finishTick.redraw := by
  obtain ⟨hr, hf, hq⟩ := run
  cases logic with
  | idleWait ha ht hg => exact step_idleWait hr hf hq ha ht hg
  | idleSample ha ht hg hv => exact step_idleSample hr hf hq ha ht hg hv
  | txHold ha ht hp hz => exact step_txHold hr hf hq ha ht hp hz
  | txHoldEnd ha ht hp hz => exact step_txHoldEnd hr hf hq ha ht hp hz
  | txShift ha ht hp hz => exact step_txShift hr hf hq ha ht hp hz
  | txShiftEnd ha ht hp hz => exact step_txShiftEnd hr hf hq ha ht hp hz
  | ackWait ha ht hd => exact step_ackWait hr hf hq ha ht hd
  | ackDone ha ht hd => exact step_ackDone hr hf hq ha ht hd

/-- The tick as the statements give it: a next state, with the registers the state logic left. -/
theorem TickLogic.exists_afterTick {s u : State} (logic : TickLogic s u) (run : s.Running) {r : Registers}
    (regs : u.regs = r) : ∃ t, step s = .next t ∧ AfterTick s t r :=
  ⟨_, logic.step_eq run, regs ▸ logic.afterTick⟩

/-- In IDLE and TRANSMIT the line is not read (R103, 20_memory.md R54): the state logic is the same at both levels, and
the level itself does not outlive the step. -/
theorem TickLogic.step_dataIn_eq {s u : State} (logic : TickLogic s u) (run : s.Running) (ha : s.ackf = false)
    (b : Bool) : step { s with dataIn := b } = step s := by
  obtain ⟨u', logic', same⟩ :
      ∃ u', TickLogic { s with dataIn := b } u' ∧ u'.finishTick.redraw = u.finishTick.redraw := by
    cases logic with
    | idleWait _ ht hg => exact ⟨_, .idleWait ha ht hg, rfl⟩
    | idleSample _ ht hg hv => exact ⟨_, .idleSample ha ht hg hv, rfl⟩
    | txHold _ ht hp hz => exact ⟨_, .txHold ha ht hp hz, rfl⟩
    | txHoldEnd _ ht hp hz => exact ⟨_, .txHoldEnd ha ht hp hz, rfl⟩
    | txShift _ ht hp hz => exact ⟨_, .txShift ha ht hp hz, rfl⟩
    | txShiftEnd _ ht hp hz => exact ⟨_, .txShiftEnd ha ht hp hz, rfl⟩
    | ackWait ha' | ackDone ha' => simp [ha] at ha'
  rw [logic'.step_eq run, logic.step_eq run, same]

/-! ## IDLE -/

/-- Settles O1. -/
theorem idleWaitTakesTheLine : Obligations.IdleWaitTakesTheLine := by
  refine ⟨fun s => rfl, decodeSel_eq_iff_of_word (i := .idleWait) rfl, ?_⟩
  rintro s run ⟨ha, ht⟩ hg
  have logic := TickLogic.idleWait ha ht hg
  exact ⟨op_idleWait ha ht hg, logic.step_dataIn_eq run ha, logic.exists_afterTick run rfl⟩

/-- Settles O2: the angle and the frame written as the spec's arithmetic are those of V2A and FRLOAD. -/
theorem idleSampleLoadsTheFrame : Obligations.IdleSampleLoadsTheFrame := by
  refine ⟨?_, decodeSel_eq_iff_of_word (i := .idleSample) rfl, ?_⟩
  · intro s a hv angle
    rw [← v2aAngle_eq] at angle
    rw [exec_idleSample_answered hv, angle, ← loadedFrame_eq]
    rfl
  · rintro s a run ⟨ha, ht⟩ hg hv angle
    rw [← v2aAngle_eq] at angle
    have logic := TickLogic.idleSample ha ht hg hv
    refine ⟨op_idleSample ha ht hg, logic.step_dataIn_eq run ha, angle ▸ v2aAngle_toNat_le _,
      logic.exists_afterTick run ?_⟩
    rw [angle, ← loadedFrame_eq]
    ext1 <;> simp [ha]

/-! ## TRANSMIT -/

/-- Settles O4. -/
theorem txHoldChangesNothing : Obligations.TxHoldChangesNothing := by
  refine ⟨fun s => rfl, decodeSel_eq_iff_of_word (i := .txHold) rfl, ?_⟩
  rintro s run ⟨ha, ht⟩ odd nonzero
  have hp : s.tick % 2 ≠ 0 := by omega
  have hz : s.frame.toNat ≠ 0 := BitVec.toNat_ne_iff_ne.2 nonzero
  have logic := TickLogic.txHold ha ht hp hz
  refine ⟨?_, logic.step_dataIn_eq run ha, logic.exists_afterTick run rfl⟩
  rw [op_transmit ha ht, if_neg hp, if_neg hz]

/-- Settles O5: the byte and the frame written as the spec's arithmetic are those of FREMIT and FRSHIFT. -/
theorem txShiftEmitsThenShifts : Obligations.TxShiftEmitsThenShifts := by
  refine ⟨fun s => ?_, decodeSel_eq_iff_of_word (i := .txShift) rfl, ?_⟩
  · rw [← lineByte_eq, ← shiftedFrame_eq]
    rfl
  · rintro s run ⟨ha, ht⟩ hp more
    have hz : ¬s.frame.toNat ≤ 1 := by omega
    have logic := TickLogic.txShift ha ht hp hz
    refine ⟨?_, logic.step_dataIn_eq run ha, _, logic.step_eq run, lineByte_getLsbD_zero _, ?_⟩
    · rw [op_transmit ha ht, if_pos hp, if_neg hz]
    · rw [← lineByte_eq, ← shiftedFrame_eq]
      exact logic.afterTick

/-- The byte that ends a transmission: of the frame 1, or of the zero frame of a forced state (R108). -/
theorem lineByte_of_toNat_le_one {f : Frame} (h : f.toNat ≤ 1) : lineByte f = if f = 1 then 0xFE else 0xFF := by
  split_ifs with one
  · exact lineByte_of_toNat_eq_one (by simp [one])
  · have zero : f = 0 := by
      have : f.toNat ≠ 1 := BitVec.toNat_ne_iff_ne.2 one
      exact BitVec.eq_of_toNat_eq (by simp; omega)
    rw [zero]
    rfl

/-- Settles O6: of the frames of at most 1 the shift leaves 0. -/
theorem txShiftEndEntersAcknowledge : Obligations.TxShiftEndEntersAcknowledge := by
  refine ⟨fun s => ?_, decodeSel_eq_iff_of_word (i := .txShiftEnd) rfl, ?_⟩
  · rw [← lineByte_eq, ← shiftedFrame_eq]
    rfl
  · rintro s run ⟨ha, ht⟩ hp last
    have hz : s.frame.toNat ≤ 1 := by omega
    have logic := TickLogic.txShiftEnd ha ht hp hz
    refine ⟨?_, logic.step_dataIn_eq run ha, logic.exists_afterTick run ?_⟩
    · rw [op_transmit ha ht, if_pos hp, if_pos hz]
    · ext1 <;> simp [lineByte_of_toNat_le_one hz, (shiftedFrame_eq_zero_iff _).2 hz]

/-- Settles O7. -/
theorem txHoldEndEntersAcknowledge : Obligations.TxHoldEndEntersAcknowledge := by
  refine ⟨fun s => rfl, decodeSel_eq_iff_of_word (i := .txHoldEnd) rfl, ?_⟩
  rintro s run ⟨ha, ht⟩ odd zero
  have hp : s.tick % 2 ≠ 0 := by omega
  have hz : s.frame.toNat = 0 := by simp [zero]
  have logic := TickLogic.txHoldEnd ha ht hp hz
  refine ⟨?_, logic.step_dataIn_eq run ha, logic.exists_afterTick run rfl⟩
  rw [op_transmit ha ht, if_neg hp, if_pos hz]

/-! ## ACKNOWLEDGE -/

/-- Settles O8. -/
theorem ackWaitReleasesTheLine : Obligations.AckWaitReleasesTheLine := by
  refine ⟨fun s => rfl, decodeSel_eq_iff_of_word (i := .ackWait) rfl, ?_⟩
  rintro s run ⟨ha, ht⟩ hd
  refine ⟨?_, (TickLogic.ackWait ha ht hd).exists_afterTick run rfl⟩
  simp [op_acknowledge ha ht, hd]

/-- Settles O9: `STATE <- IDLE` writes both flags, of which ACKNOWLEDGE has `TXF` at 0 already (R17). -/
theorem ackDoneReturnsToIdle : Obligations.AckDoneReturnsToIdle := by
  refine ⟨fun s => rfl, decodeSel_eq_iff_of_word (i := .ackDone) rfl, ?_⟩
  rintro s run ⟨ha, ht⟩ hd
  refine ⟨by simp [op_acknowledge ha ht, hd], (TickLogic.ackDone ha ht hd).exists_afterTick run ?_⟩
  ext1 <;> simp [ht]

/-! ## FATAL -/

/-- A halted block keeps its registers for any number of ticks without reset (60_exceptions.md R133). -/
theorem runTicks_halted {s : State} {is : List Inputs} (hf : s.fault = true) (quiet : NoReset is) :
    ∃ t, runTicks is s = .next t ∧ t.regs = s.regs := by
  induction is generalizing s with
  | nil => exact ⟨s, rfl, rfl⟩
  | cons i is ih =>
    have halted : step (s.withInputs i) = .next (s.withInputs i).redraw := step_halted (quiet i (by simp)) hf
    obtain ⟨t, run, regs⟩ := ih (s := (s.withInputs i).redraw) hf (fun j mem => quiet j (by simp [mem]))
    exact ⟨t, (runTicks_cons halted is).trans run, regs⟩

/-- Settles O10: the ticks after FATAL are those of a halted block. -/
theorem fatalSetsFaultAndHalts : Obligations.FatalSetsFaultAndHalts := by
  refine ⟨fun s => rfl, decodeSel_eq_iff_of_word (i := .fatal) rfl, ?_⟩
  rintro s ⟨hr, hf, hq⟩ ha ht
  have faults := step_fatal hr hf hq ha ht
  have unread (b : Bool) : step { s with dataIn := b } = step s :=
    (step_fatal (s := { s with dataIn := b }) hr hf hq ha ht).trans faults.symm
  exact ⟨op_fatal ha ht, unread, _, faults, ⟨rfl, rfl, rfl⟩, fun is quiet => runTicks_halted rfl quiet⟩

end Sys2Proof.Machine
end

section
/-! PROOFS. The state machine (spec/42_link_fsm.md R113, R114): the transition relation, and one whole cycle put together
from the sampling tick, the transmission, and the wait for the acknowledge. -/

namespace Sys2Proof.Machine

/-! ## The transition relation (R113) -/

/-- The three phases and the illegal combination are readings of the two flags (10_state.md R17). -/
theorem phase_eq_iff (s : State) :
    (s.phase = some .idle ↔ s.InIdle) ∧ (s.phase = some .transmit ↔ s.InTransmit) ∧
    (s.phase = some .acknowledge ↔ s.InAcknowledge) ∧ (s.phase = none ↔ s.ackf = true ∧ s.txf = true) := by
  cases ha : s.ackf <;> cases ht : s.txf <;>
    simp [State.phase, Registers.phase, State.InIdle, State.InTransmit, State.InAcknowledge, ha, ht]

/-- A block that is not halted and has a next state without reset is not stuck (60_exceptions.md R136). -/
theorem running_of_step {s t : State} (hr : s.rst = false) (hf : s.fault = false) (h : step s = .next t) :
    s.Running := by
  refine ⟨hr, hf, ?_⟩
  by_contra stuck
  rw [step_stuck hr hf (by simpa using stuck)] at h
  cases h

/-- CLKUPD and TICKINC leave the flags, so a completed tick ends in the phase of its state logic (R126). -/
theorem TickLogic.next_phase {s t u : State} (logic : TickLogic s u) (run : s.Running) (h : step s = .next t) :
    t.phase = u.phase := by
  cases (logic.step_eq run).symm.trans h
  rfl

/-- Settles O37: each row is the tick of its operation. -/
theorem transitionRelation : Obligations.TransitionRelation := by
  intro s t hr h
  have run (hf : s.fault = false) : s.Running := running_of_step hr hf h
  obtain ⟨idle, transmit, acknowledge, corrupt⟩ := phase_eq_iff s
  simp only [idle, transmit, acknowledge, corrupt]
  refine ⟨?idleWait, ?idleSample, ?stuck, ?sending, ?sent, ?ackWait, ?ackDone, ?fatal, ?halted⟩
  case idleWait =>
    rintro hf ⟨ha, ht⟩ hg
    exact ((TickLogic.idleWait ha ht hg).next_phase (run hf) h).trans (idle.2 ⟨ha, ht⟩)
  case idleSample =>
    rintro hf ⟨ha, ht⟩ hg hv
    exact (TickLogic.idleSample ha ht hg hv).next_phase (run hf) h
  case stuck =>
    rintro hf ⟨ha, ht⟩ hg hv
    cases (step_idleStuck hr hf (run hf).2.2 ha ht hg hv).symm.trans h
    exact ⟨idle.2 ⟨ha, ht⟩, rfl, rfl, fun i hi => step_stuck hi hf rfl⟩
  case sending =>
    rintro hf ⟨ha, ht⟩ nonzero
    split_ifs at nonzero with hp
    · have hz : ¬s.frame.toNat ≤ 1 := by omega
      exact ((TickLogic.txShift ha ht hp hz).next_phase (run hf) h).trans (transmit.2 ⟨ha, ht⟩)
    · exact ((TickLogic.txHold ha ht hp nonzero).next_phase (run hf) h).trans (transmit.2 ⟨ha, ht⟩)
  case sent =>
    rintro hf ⟨ha, ht⟩ zero
    split_ifs at zero with hp
    · exact (TickLogic.txShiftEnd ha ht hp (by omega)).next_phase (run hf) h
    · exact (TickLogic.txHoldEnd ha ht hp zero).next_phase (run hf) h
  case ackWait =>
    rintro hf ⟨ha, ht⟩ hd
    exact ((TickLogic.ackWait ha ht hd).next_phase (run hf) h).trans (acknowledge.2 ⟨ha, ht⟩)
  case ackDone =>
    rintro hf ⟨ha, ht⟩ hd
    exact (TickLogic.ackDone ha ht hd).next_phase (run hf) h
  case fatal =>
    rintro hf ⟨ha, ht⟩
    cases (step_fatal hr hf (run hf).2.2 ha ht).symm.trans h
    exact ⟨corrupt.2 ⟨ha, ht⟩, rfl⟩
  case halted =>
    intro hf
    cases (step_halted hr hf).symm.trans h
    exact ⟨rfl, hf⟩

/-! ## Runs put together -/

/-- A run and the levels it puts on the line. -/
structure RunsTo (is : List Inputs) (s : State) (levels : List Bool) (t : State) : Prop where
  ticks : runTicks is s = .next t
  levels : levelsOf is s = levels

/-- A tick that does not emit, and a run after it. -/
theorem RunsTo.cons_of_silent {i : Inputs} {is : List Inputs} {s t u : State} {levels : List Bool}
    (h : step (s.withInputs i) = .next t) (silent : (s.withInputs i).emits = false) (rest : RunsTo is t levels u) :
    RunsTo (i :: is) s levels u where
  ticks := (runTicks_cons h is).trans rest.ticks
  levels := by simp [levelsOf_cons h, silent, rest.levels]

/-- One run after another: the levels follow one another too. -/
theorem RunsTo.append {is js : List Inputs} {s t u : State} {levels levels' : List Bool} (first : RunsTo is s levels t)
    (rest : RunsTo js t levels' u) : RunsTo (is ++ js) s (levels ++ levels') u := by
  obtain ⟨ticks, rfl⟩ := first
  induction is generalizing s with
  | nil =>
    cases ticks
    exact rest
  | cons i is ih =>
    cases h : step (s.withInputs i) with
    | next v =>
      obtain ⟨run, emitted⟩ := ih ((runTicks_cons h is).symm.trans ticks)
      refine ⟨(runTicks_cons h _).trans run, ?_⟩
      rw [List.cons_append, levelsOf_cons h, levelsOf_cons h, emitted]
      split_ifs <;> rfl
    | fault | refused => simp [runTicks, h] at ticks

/-- Outside TRANSMIT no operation puts a level on the line (20_memory.md R53). -/
theorem emits_eq_false {s : State} (ht : s.txf = false) : s.emits = false := by
  have op : s.op ≠ .txShift ∧ s.op ≠ .txShiftEnd := by
    cases ha : s.ackf with
    | false => by_cases hg : s.tick % 50 = 0 <;> simp [op_idleSample, op_idleWait, ha, ht, hg]
    | true => cases hd : s.dataIn <;> simp [op_acknowledge, ha, ht, hd]
  simp [State.emits, op]

/-! ## The wait for the acknowledge -/

/-- The inputs of a wait for the acknowledge: the line low in the ticks `waits`, then high in the tick `last` (R110,
R111). -/
structure AckInputs (waits : List Inputs) (last : Inputs) : Prop where
  quiet : NoReset waits
  low : ∀ i ∈ waits, i.dataIn = false
  released : last.rst = false
  high : last.dataIn = true

/-- Without its first tick a wait is a wait. -/
theorem AckInputs.tail {i last : Inputs} {waits : List Inputs} (acks : AckInputs (i :: waits) last) :
    AckInputs waits last where
  quiet j mem := acks.quiet j (by simp [mem])
  low j mem := acks.low j (by simp [mem])
  released := acks.released
  high := acks.high

/-- The registers after an acknowledge that is seen after `n` ticks of waiting (R110, R111). -/
def State.acknowledgedRegs (s : State) (n : Nat) : Registers :=
  { s.regs with
    dir := false, ackf := false, clk := decide ((s.tick + n) % 2 = 1)
    tick := (s.tick + n + 1) % 2 ^ s.params.tickWidth }

/-- A tick of waiting is one of the ticks waited (R110). -/
theorem acknowledgedRegs_of_waited {s t : State} (width : 1 ≤ s.params.tickWidth)
    (waited : AfterTick s t { s.regs with dir := false }) (n : Nat) :
    t.acknowledgedRegs n = s.acknowledgedRegs (n + 1) := by
  obtain ⟨regs, params, -⟩ := waited
  have tick : t.tick = (s.tick + 1) % 2 ^ s.params.tickWidth := congrArg Registers.tick regs
  have sum : s.tick + 1 + n = s.tick + (n + 1) := by omega
  have parity : (t.tick + n) % 2 = (s.tick + (n + 1)) % 2 := by
    rw [tick, Nat.add_mod, parity_of_wrapped _ _ width, ← Nat.add_mod, sum]
  have count : (t.tick + n + 1) % 2 ^ t.params.tickWidth = (s.tick + (n + 1) + 1) % 2 ^ s.params.tickWidth := by
    rw [params, tick, Nat.add_assoc, Nat.mod_add_mod, ← Nat.add_assoc, sum]
  rw [State.acknowledgedRegs, parity, count, regs]
  rfl

/-- ACKNOWLEDGE up to the tick that sees the line high, by induction on the ticks of waiting (R110, R111). -/
theorem waits_for_acknowledge {s : State} {waits : List Inputs} {last : Inputs} (ready : s.Ready)
    (phase : s.InAcknowledge) (width : 1 ≤ s.params.tickWidth) (acks : AckInputs waits last) :
    ∃ t, RunsTo (waits ++ [last]) s [] t ∧ t.regs = s.acknowledgedRegs waits.length := by
  induction waits generalizing s with
  | nil =>
    obtain ⟨-, t, done, regs, -⟩ :=
      ackDoneReturnsToIdle.2.2 (s.withInputs last) ⟨acks.released, ready⟩ phase acks.high
    exact ⟨t, .cons_of_silent done (emits_eq_false phase.2) ⟨rfl, rfl⟩, regs⟩
  | cons i waits ih =>
    obtain ⟨-, t, waited, after⟩ := ackWaitReleasesTheLine.2.2 (s.withInputs i)
      ⟨acks.quiet i (by simp), ready⟩ phase (acks.low i (by simp))
    have ⟨regs, params, _⟩ := after
    have ready' : t.Ready :=
      ⟨(congrArg Registers.fault regs).trans ready.1, (congrArg Registers.sampleReq regs).trans ready.2⟩
    have phase' : t.InAcknowledge :=
      ⟨(congrArg Registers.ackf regs).trans phase.1, (congrArg Registers.txf regs).trans phase.2⟩
    have width' : 1 ≤ t.params.tickWidth := width.trans_eq (congrArg Params.tickWidth params.symm)
    obtain ⟨u, rest, done⟩ := ih ready' phase' width' acks.tail
    exact ⟨u, .cons_of_silent waited (emits_eq_false phase.2) rest,
      done.trans (acknowledgedRegs_of_waited width after _)⟩

/-! ## One cycle (R114) -/

/-- A cycle from its first TRANSMIT tick on: the transmission by O53, then the wait for the acknowledge. -/
theorem sends_and_waits {s : State} {a : Byte} {sending waits : List Inputs} {last : Inputs} (ready : s.Ready)
    (phase : s.InTransmit) (odd : s.tick % 2 = 1) (loaded : s.frame.toNat = 511 - 2 * a.toNat)
    (width : 1 ≤ s.params.tickWidth) (quiet : NoReset sending) (ticks : sending.length = 2 * frameLength s.frame)
    (acks : AckInputs waits last) :
    ∃ t, RunsTo (sending ++ (waits ++ [last])) s (slotLevels a (frameLength s.frame)) t ∧ t.regs = { s.regs with
      txf := false, ackf := false, frame := 0, dout := 0xFE, dir := false, clk := decide (waits.length % 2 = 0)
      tick := (s.tick + 2 * frameLength s.frame + waits.length + 1) % 2 ^ s.params.tickWidth } := by
  obtain ⟨levels, t, sent, params, regs⟩ :=
    transmissionSendsTheAngle s a sending ready phase odd loaded width quiet ticks
  have ready' : t.Ready :=
    ⟨(congrArg Registers.fault regs).trans ready.1, (congrArg Registers.sampleReq regs).trans ready.2⟩
  have phase' : t.InAcknowledge := ⟨congrArg Registers.ackf regs, congrArg Registers.txf regs⟩
  obtain ⟨u, waited, done⟩ := waits_for_acknowledge ready' phase' (params ▸ width) acks
  refine ⟨u, List.append_nil (slotLevels a _) ▸ RunsTo.append ⟨sent, levels⟩ waited, ?_⟩
  have tick : t.tick = (s.tick + 2 * frameLength s.frame) % 2 ^ s.params.tickWidth := congrArg Registers.tick regs
  have parity : (t.tick + waits.length) % 2 = 1 ↔ waits.length % 2 = 0 := by
    rw [tick, Nat.add_mod, parity_of_wrapped _ _ width]
    omega
  have count : (t.tick + waits.length + 1) % 2 ^ t.params.tickWidth =
      (s.tick + 2 * frameLength s.frame + waits.length + 1) % 2 ^ s.params.tickWidth := by
    rw [params, tick, Nat.add_assoc, Nat.mod_add_mod, ← Nat.add_assoc]
  rw [done, State.acknowledgedRegs, decide_eq_decide.2 parity, count, regs]

/-- Settles O60: the sampling tick by O2, then the rest of the cycle. -/
theorem oneCycle : Obligations.OneCycle := by
  intro s first last sending waits a f ready idle hg width hr hv angle frame quiet ticks quiet' low hr' high
  obtain ⟨-, -, -, t, sampled, regs, params, -⟩ :=
    idleSampleLoadsTheFrame.2.2 (s.withInputs first) a ⟨hr, ready⟩ idle hg hv angle
  have params : t.params = s.params := params
  have ready' : t.Ready := ⟨(congrArg Registers.fault regs).trans ready.1, congrArg Registers.sampleReq regs⟩
  have phase' : t.InTransmit := ⟨(congrArg Registers.ackf regs).trans idle.1, congrArg Registers.txf regs⟩
  have tick : t.tick = (s.tick + 1) % 2 ^ s.params.tickWidth := congrArg Registers.tick regs
  have odd : t.tick % 2 = 1 := by
    rw [tick, parity_of_wrapped _ _ width]
    omega
  obtain rfl : t.frame = f := (congrArg Registers.frame regs).trans frame.symm
  have loaded : t.frame.toNat = 511 - 2 * a.toNat := by rw [frame, ← loadedFrame_eq, loadedFrame_toNat]
  obtain ⟨u, rest, done⟩ :=
    sends_and_waits ready' phase' odd loaded (params ▸ width) quiet ticks ⟨quiet', low, hr', high⟩
  obtain ⟨run, levels⟩ := RunsTo.cons_of_silent sampled (emits_eq_false idle.2) rest
  refine ⟨levels, u, run, ?_⟩
  have count : (t.tick + 2 * frameLength t.frame + waits.length + 1) % 2 ^ t.params.tickWidth =
      (s.tick + 2 * frameLength t.frame + waits.length + 2) % 2 ^ s.params.tickWidth := by
    rw [params, tick, Nat.add_assoc, Nat.add_assoc, Nat.mod_add_mod]
    congr 1
    omega
  rw [done, count, regs]
  ext1 <;> simp [idle.1, idle.2]

end Sys2Proof.Machine
end

section
/-! PROOFS. The clock divider and the tick (spec/43_clock_divider.md): the gates, CLKUPD and TICKINC as instructions and
at the end of every completed tick, the step as the TICKSTEP of R126, and the wait of an idle block for its next sampling
tick, on a multiple of 50 or on the wrap. -/

namespace Sys2Proof.Machine

/-! ## The gates (R119 to R121) -/

theorem exec_gate50 (s : State) : exec .gate50 s = .next (s.answer (.bit (gate50Bit s.tick))) := rfl

theorem exec_gate2 (s : State) : exec .gate2 s = .next (s.answer (.bit (gate2Bit s.tick))) := rfl

theorem gate50Bit_eq (t : Nat) : gate50Bit t = decide (50 ∣ t) := by
  rw [Bool.eq_iff_iff, gate50Bit_iff, decide_eq_true_iff, Nat.dvd_iff_mod_eq_zero]

theorem gate2Bit_eq (t : Nat) : gate2Bit t = decide (2 ∣ t) := by
  rw [Bool.eq_iff_iff, gate2Bit_iff, decide_eq_true_iff, Nat.dvd_iff_mod_eq_zero]

/-- Settles O20. -/
theorem gate50TestsTheCounter : Obligations.Gate50TestsTheCounter := by
  intro s
  rw [exec_gate50, gate50Bit_eq, State.answer_eq]

/-- Settles O21. -/
theorem gate2TestsTheParity : Obligations.Gate2TestsTheParity := by
  intro s
  rw [exec_gate2, gate2Bit_eq, State.answer_eq]

/-- A multiple of 50 is even (R121). -/
theorem gate2Bit_of_gate50Bit {t : Nat} (h : gate50Bit t = true) : gate2Bit t = true := by
  rw [gate50Bit_iff] at h
  rw [gate2Bit_iff]
  omega

/-- Of the six conditions `selReachable` looks at the gates alone (30_encoding.md R72). -/
theorem selReachable_packSel (a t g50 g2 z d : Bool) : selReachable (packSel a t g50 g2 z d) = (!g50 || g2) := by
  revert a t g50 g2 z d
  decide

/-- Settles O44: both clauses are `gate2Bit_of_gate50Bit`. -/
theorem samplingGateImpliesBitGate : Obligations.SamplingGateImpliesBitGate := by
  intro s
  have implied := gate2Bit_of_gate50Bit (t := s.tick)
  constructor
  · rw [State.selector, Registers.selector, selReachable_packSel]
    cases g50 : gate50Bit s.tick with
    | false => rfl
    | true => simp [implied g50]
  · intro h
    rw [exec_gate50] at h
    have answered : FnOut.bit (gate50Bit s.tick) = .bit true :=
      congrArg (fun u : State => u.fnOut) (Host.Outcome.next.inj h)
    rw [exec_gate2, implied (FnOut.bit.inj answered), State.answer_eq]

/-! ## CLKUPD and TICKINC (R122 to R124) -/

theorem exec_clkupd (s : State) : exec .clkupd s = .next s.clkUpd := rfl

theorem exec_tickinc (s : State) : exec .tickinc s = .next s.tickInc := rfl

theorem State.clkUpd_eq (s : State) : s.clkUpd = { s with clk := decide (s.tick % 2 = 1) } := by
  rw [← clockLevel_eq]
  rfl

theorem State.tickInc_eq (s : State) : s.tickInc = { s with tick := (s.tick + 1) % 2 ^ s.params.tickWidth } := rfl

/-- A completed tick leaves the parity of its counter value on the clock, whatever its state logic wrote (R122, R126). -/
theorem clk_of_completes {s t : State} (completes : s.Completes) (h : step s = .next t) :
    t.clk = decide (s.tick % 2 = 1) := by
  rcases step_completes_or_keeps completes.1.1 h with ⟨-, u, logic, rfl⟩ | ⟨incomplete, -⟩
  · obtain ⟨regs, -⟩ := logic.afterTick
    exact congrArg Registers.clk regs
  · exact absurd completes incomplete

/-- Settles O22; that a step which completes no tick leaves the clock is a part of O46. -/
theorem clkupdWritesTheParity : Obligations.ClkupdWritesTheParity := by
  constructor
  · intro s
    rw [exec_clkupd, State.clkUpd_eq]
  · intro s t hr h
    exact ⟨fun completes => clk_of_completes completes h,
      fun incomplete => ((counterCountsCompletedTicks s t hr h).2 incomplete).2⟩

/-- Settles O23: the whole ticks are those of O46, and below `2^W` only the last value wraps. -/
theorem tickincWrapsSilently : Obligations.TickincWrapsSilently := by
  refine ⟨fun s => ?instruction, fun s t small h => ?value, fun s t hr h => ?steps⟩
  case instruction => rw [exec_tickinc, State.tickInc_eq]
  case value =>
    cases (exec_tickinc s).symm.trans h
    have tick : s.tickInc.tick = (s.tick + 1) % 2 ^ s.params.tickWidth := rfl
    rw [tick]
    refine ⟨Nat.mod_lt _ (by positivity), fun last => ?_, fun more => Nat.mod_eq_of_lt (by omega)⟩
    rw [last, Nat.mod_self]
  case steps =>
    obtain ⟨counts, keeps⟩ := counterCountsCompletedTicks s t hr h
    exact ⟨counts, fun incomplete => (keeps incomplete).1⟩

/-- Settles O45: `2^W` is even, so the wrapped counter has the other parity too. -/
theorem clockAlternatesAcrossTheWrap : Obligations.ClockAlternatesAcrossTheWrap := by
  intro s t width completes h
  refine ⟨clk_of_completes completes h, fun i u completes' h' => ?_⟩
  have counted : t.tick = (s.tick + 1) % 2 ^ s.params.tickWidth :=
    (counterCountsCompletedTicks s t completes.1.1 h).1 completes
  have tick : (t.withInputs i).tick = (s.tick + 1) % 2 ^ s.params.tickWidth := counted
  rw [clk_of_completes completes' h', clk_of_completes completes h, tick, parity_of_wrapped _ _ width, ← decide_not]
  apply decide_eq_decide.2
  omega

/-! ## The step as the selected operation and the end of the tick (R126, 30_encoding.md R69) -/

/-- The converse of `tickCompletes_of_completes` for a block that runs. -/
theorem completes_of_tickCompletes {s : State} (run : s.Running) (h : tickCompletes s.op s = true) : s.Completes := by
  refine ⟨run, ?_, ?_⟩
  · rintro ⟨ht, ha⟩
    rw [op_fatal ha ht] at h
    cases h
  · rintro ⟨ha, ht⟩ hg
    rwa [op_idleSample ha ht hg] at h

/-- Settles O27: the state logic leaves the clock, the counter and the bench, so what CLKUPD and TICKINC write is read
off the state before it. -/
theorem stepRunsTheSelectedOperation : Obligations.StepRunsTheSelectedOperation := by
  refine ⟨fun s => ⟨_, decode_setWidth_cons s.selector []⟩, fun s t i run decoded logic => ?_⟩
  cases (decode_setWidth_cons s.selector []).symm.trans decoded
  have frame := afterLogic_logicFrame logic
  have params : t.params = s.params := congrArg Bench.params frame.toBench
  have fnOut : t.fnOut = s.fnOut := congrArg Bench.fnOut frame.toBench
  refine ⟨_, step_running run.1 run.2.1 run.2.2 logic, fun completes => ?_, fun incomplete => ?_⟩
  · rw [if_pos (tickCompletes_of_completes completes)]
    refine ⟨?_, params, fnOut⟩
    rw [← frame.tick, ← params, ← clockLevel_eq]
    rfl
  · rw [if_neg (mt (completes_of_tickCompletes run) incomplete)]
    exact ⟨rfl, params, fnOut⟩

/-! ## The step as TICKSTEP (R126) -/

/-- TICKSTEP on the block of a state, with the state's inputs and parameters. -/
abbrev State.tickResult (s : State) : TickResult :=
  tickBlock s.params s.toInputs s.toRegisters

theorem tickResult_halted {s : State} (hf : s.fault = true) : s.tickResult = ⟨.halted, s.toRegisters⟩ := by
  simp [tickBlock, hf]

theorem tickResult_fatal {s : State} (run : s.Running) (ha : s.ackf = true) (ht : s.txf = true) :
    s.tickResult = ⟨.faulted, s.toRegisters.raiseFatal .stateCorrupt⟩ := by
  simp [tickBlock, Registers.phase, run.2.1, ha, ht]

theorem tickResult_stuck {s : State} (run : s.Running) (ha : s.ackf = false) (ht : s.txf = false)
    (hg : s.tick % 50 = 0) (hv : s.rawValid = false) :
    s.tickResult = ⟨.stuck, s.toRegisters.requestSample⟩ := by
  simp [tickBlock, Registers.phase, run.2.1, ha, ht, (gate50Bit_iff _).2 hg, hv]

/-- TICKSTEP tests the frame after its shift (41_frame.md R96). -/
theorem frameIsZero_shiftedFrame (f : Frame) : frameIsZero (shiftedFrame f) = decide (f.toNat ≤ 1) := by
  rw [frameIsZero, Bool.eq_iff_iff, beq_iff_eq, shiftedFrame_eq_zero_iff, decide_eq_true_iff]

/-- The selected operation's state logic is TICKSTEP's, for every tick that completes. -/
theorem TickLogic.tickResult_eq {s u : State} (logic : TickLogic s u) (run : s.Running) :
    s.tickResult = u.toRegisters.completed s.params := by
  obtain ⟨-, hf, -⟩ := run
  cases logic with
  | idleWait ha ht hg => simp [tickBlock, Registers.phase, hf, ha, ht, gate50Bit_iff, hg]
  | idleSample ha ht hg hv => simp [tickBlock, Registers.phase, hf, ha, ht, gate50Bit_iff, hg, hv]
  | txHold ha ht hp hz | txHoldEnd ha ht hp hz =>
    simp [tickBlock, Registers.phase, hf, ha, ht, gate2Bit_iff, hp, frameIsZero_iff, hz]
  | txShift ha ht hp hz | txShiftEnd ha ht hp hz =>
    simp [tickBlock, Registers.phase, hf, ha, ht, gate2Bit_iff, hp, frameIsZero_shiftedFrame, hz]
  | ackWait ha ht hd | ackDone ha ht hd => simp [tickBlock, Registers.phase, hf, ha, ht, hd]

/-- Every operation answers a next state: no meaning of one stops (log entry 10). -/
theorem exec_answers (i : Instr) (s : State) : ∃ t, exec i s = .next t := by
  cases i <;> exact ⟨_, rfl⟩

/-- With `rst` low a block that is not stuck has a next state, by one of the ways of `StepTo` (R126). -/
theorem step_answers {s : State} (hr : s.rst = false) (hq : s.sampleReq = false) : ∃ t, step s = .next t := by
  cases hf : s.fault with
  | true => exact ⟨_, step_halted hr hf⟩
  | false =>
    obtain ⟨t, logic⟩ := exec_answers s.op s
    exact ⟨_, step_running hr hf hq logic⟩

/-- The registers after a step without reset are TICKSTEP's, and the bench stays but for the draw (R126, R10). -/
theorem step_regs_eq_tickResult {s t : State} (hr : s.rst = false) (h : step s = .next t) :
    AfterNoTick s t s.tickResult.block := by
  cases stepTo_of_step h with
  | reset hr' => exact absurd hr' (by simp [hr])
  | halted _ hf =>
    rw [tickResult_halted hf]
    exact ⟨rfl, rfl, rfl⟩
  | stuck run ha ht hg hv =>
    rw [tickResult_stuck run ha ht hg hv]
    exact ⟨rfl, rfl, rfl⟩
  | fatal run ha ht =>
    rw [tickResult_fatal run ha ht]
    exact ⟨rfl, rfl, rfl⟩
  | completed run logic =>
    obtain ⟨-, params, fnOut⟩ := logic.afterTick
    refine ⟨?_, params, fnOut⟩
    rw [logic.tickResult_eq run, ← params]
    rfl

/-- The condition of each outcome of TICKSTEP, for a state with `rst` low and no tick stuck (R126, R133, R136). -/
def State.Verdict (s : State) : TickOutcome → Prop
  | .halted => s.fault = true
  | .faulted => s.fault = false ∧ s.ackf = true ∧ s.txf = true
  | .stuck => s.fault = false ∧ s.InIdle ∧ s.tick % 50 = 0 ∧ s.rawValid = false
  | .ok => s.Completes

/-- TICKSTEP's outcome is one whose condition holds. -/
theorem verdict_tickResult {s : State} (hr : s.rst = false) (hq : s.sampleReq = false) :
    s.Verdict s.tickResult.outcome := by
  obtain ⟨t, h⟩ := step_answers hr hq
  cases stepTo_of_step h with
  | reset hr' => exact absurd hr' (by simp [hr])
  | halted _ hf =>
    rw [tickResult_halted hf]
    exact hf
  | stuck run ha ht hg hv =>
    rw [tickResult_stuck run ha ht hg hv]
    exact ⟨run.2.1, ⟨ha, ht⟩, hg, hv⟩
  | fatal run ha ht =>
    rw [tickResult_fatal run ha ht]
    exact ⟨run.2.1, ha, ht⟩
  | completed run logic =>
    rw [logic.tickResult_eq run]
    exact logic.completes run

/-- A tick that completes meets the condition of no other outcome. -/
theorem State.Verdict.not_completes {s : State} {o : TickOutcome} (h : s.Verdict o) (other : o ≠ .ok) :
    ¬s.Completes := by
  rintro ⟨⟨-, clear, -⟩, legal, answered⟩
  cases o with
  | halted => exact Bool.false_ne_true (clear.symm.trans h)
  | faulted =>
    obtain ⟨-, ha, ht⟩ := h
    exact legal ⟨ht, ha⟩
  | stuck =>
    obtain ⟨-, idle, hg, hv⟩ := h
    exact Bool.false_ne_true (hv.symm.trans (answered idle hg))
  | ok => exact other rfl

/-- No two outcomes have their conditions met together. -/
theorem State.Verdict.unique {s : State} {o o' : TickOutcome} (h : s.Verdict o) (h' : s.Verdict o') : o = o' := by
  cases o with
  | ok =>
    by_contra other
    exact h'.not_completes (Ne.symm other) h
  | halted | faulted | stuck =>
    cases o' with
    | ok => exact absurd h' (h.not_completes nofun)
    | halted | faulted | stuck => simp_all [State.Verdict]

/-- TICKSTEP has an outcome exactly if the outcome's condition holds. -/
theorem tickResult_outcome_iff {s : State} (hr : s.rst = false) (hq : s.sampleReq = false) (o : TickOutcome) :
    s.tickResult.outcome = o ↔ s.Verdict o := by
  have holds := verdict_tickResult hr hq
  exact ⟨fun h => h ▸ holds, holds.unique⟩

/-- Settles O29: the registers and the outcomes by the ways a step can go, the steps that are no tick from their laws. -/
theorem stepIsTheTickStepOfTheSpec : Obligations.StepIsTheTickStepOfTheSpec := by
  refine ⟨fun s hr hq => ?registers, fun s hr hq => ?outcomes, fun s hr => ⟨_, step_reset hr, rfl⟩,
    fun s hr hf => ⟨_, step_halted hr hf, rfl⟩, fun s hr hf hq => step_stuck hr hf hq⟩
  case registers =>
    obtain ⟨t, h⟩ := step_answers hr hq
    exact ⟨t, h, step_regs_eq_tickResult hr h⟩
  case outcomes =>
    have outcome := tickResult_outcome_iff hr hq
    exact ⟨outcome .halted, outcome .faulted, outcome .stuck, outcome .ok⟩

/-! ## The wait of an idle block (R125, R128) -/

/-- The registers after `n + 1` ticks of waiting in IDLE: the line is driven, and the clock has the parity of the last
count (42_link_fsm.md R103). -/
def State.waitedRegs (s : State) (n : Nat) : Registers :=
  { s.regs with
    dir := true, clk := decide ((s.tick + n) % 2 = 1), tick := (s.tick + n + 1) % 2 ^ s.params.tickWidth }

/-- The ticks of a wait: off the multiples of 50, and no wrap before the last of them. -/
structure State.WaitsFor (s : State) (n : Nat) : Prop where
  ready : s.Ready
  idle : s.InIdle
  off : ∀ k < n, (s.tick + k) % 50 ≠ 0
  room : s.tick + n ≤ 2 ^ s.params.tickWidth

/-- A tick of a wait, with a tick left after it, counts one up and leaves the rest of the wait. -/
theorem State.WaitsFor.exists_tick {s : State} {n : Nat} (wait : s.WaitsFor (n + 2)) {i : Inputs} (hi : i.rst = false) :
    ∃ t, step (s.withInputs i) = .next t ∧ t.WaitsFor (n + 1) ∧ t.waitedRegs n = s.waitedRegs (n + 1) := by
  obtain ⟨ready, idle, off, room⟩ := wait
  obtain ⟨-, -, t, waited, regs, params, -⟩ :=
    idleWaitTakesTheLine.2.2 (s.withInputs i) ⟨hi, ready⟩ idle (off 0 (by omega))
  have params : t.params = s.params := params
  have tick : t.tick = s.tick + 1 := (congrArg Registers.tick regs).trans (Nat.mod_eq_of_lt (by simp; omega))
  have count (k : Nat) : t.tick + k = s.tick + (k + 1) := by omega
  have ready' : t.Ready :=
    ⟨(congrArg Registers.fault regs).trans ready.1, (congrArg Registers.sampleReq regs).trans ready.2⟩
  have idle' : t.InIdle := ⟨(congrArg Registers.ackf regs).trans idle.1, (congrArg Registers.txf regs).trans idle.2⟩
  refine ⟨t, waited, ⟨ready', idle', fun k hk => ?_, ?_⟩, ?_⟩
  · rw [count]
    exact off _ (by omega)
  · rw [count, params]
    exact room
  · rw [State.waitedRegs, count, params, regs]
    rfl

/-- A wait, by induction on its ticks: the last may wrap the counter, those before it do not (R125, R128). -/
theorem waits_in_idle {s : State} {i : Inputs} {is : List Inputs} (wait : s.WaitsFor (is.length + 1))
    (quiet : NoReset (i :: is)) : ∃ t, runTicks (i :: is) s = .next t ∧ t.regs = s.waitedRegs is.length := by
  have hi : i.rst = false := quiet i (by simp)
  induction is generalizing s i with
  | nil =>
    obtain ⟨-, -, t, waited, regs, -⟩ :=
      idleWaitTakesTheLine.2.2 (s.withInputs i) ⟨hi, wait.ready⟩ wait.idle (wait.off 0 (by simp))
    exact ⟨t, runTicks_cons waited [], regs⟩
  | cons j js ih =>
    have quiet' : NoReset (j :: js) := fun k mem => quiet k (List.mem_cons_of_mem _ mem)
    obtain ⟨t, waited, wait', regs⟩ := wait.exists_tick hi
    obtain ⟨u, run, done⟩ := ih wait' quiet' (quiet' j (by simp))
    exact ⟨u, (runTicks_cons waited _).trans run, done.trans regs⟩

/-- A wait that ends at a sampling count: with the clock high, if the count before the last TICKINC was odd. -/
theorem waits_and_samples {s : State} {is : List Inputs} (wait : s.WaitsFor is.length) (quiet : NoReset is)
    (nonempty : 0 < is.length) (even : (s.tick + is.length) % 2 = 0) {c : Nat}
    (count : (s.tick + is.length) % 2 ^ s.params.tickWidth = c) (sampling : c % 50 = 0) :
    ∃ t, runTicks is s = .next t ∧ t.op = .idleSample ∧
      t.regs = { s.regs with dir := true, clk := true, tick := c } := by
  cases is with
  | nil => cases nonempty
  | cons i is =>
    rw [List.length_cons] at wait even count
    obtain ⟨t, run, done⟩ := waits_in_idle wait quiet
    have clock : decide ((s.tick + is.length) % 2 = 1) = true := decide_eq_true (by omega)
    have regs : t.regs = { s.regs with dir := true, clk := true, tick := c } := by
      rw [done, State.waitedRegs, clock, Nat.add_assoc, count]
    have ha : t.ackf = false := (congrArg Registers.ackf regs).trans wait.idle.1
    have ht : t.txf = false := (congrArg Registers.txf regs).trans wait.idle.2
    have tick : t.tick = c := congrArg Registers.tick regs
    exact ⟨t, run, op_idleSample ha ht (tick ▸ sampling), regs⟩

/-- Settles O47: between two multiples of 50 there is none, and the second is even. -/
theorem idleBlockWaitsForTheNextMultiple : Obligations.IdleBlockWaitsForTheNextMultiple := by
  intro s is ready idle quiet start ticks room
  exact waits_and_samples ⟨ready, idle, fun k hk => by omega, room.le⟩ quiet (by omega) (by omega)
    (Nat.mod_eq_of_lt room) (by omega)

/-- Settles O48: the last multiple of 50 lies `2^W mod 50` ticks before the wrap, and the wrap itself is at an even
count. -/
theorem wrapBringsASampleEarly : Obligations.WrapBringsASampleEarly := by
  refine ⟨fun s is ready idle quiet nonempty near wrap => ?_, by norm_num, by norm_num, by norm_num, by norm_num⟩
  have width : s.params.tickWidth ≠ 0 := by
    intro zero
    rw [zero] at near
    omega
  have even : 2 ^ s.params.tickWidth % 2 = 0 := Nat.mod_eq_zero_of_dvd (dvd_pow_self 2 width)
  exact waits_and_samples ⟨ready, idle, fun k hk => by omega, wrap.le⟩ quiet nonempty (by omega)
    (by rw [wrap, Nat.mod_self]) rfl

end Sys2Proof.Machine
end

section
/-! PROOFS. The exceptions (spec/60_exceptions.md): the halted block, the wait without an acknowledge, the acquisition
that never returns, and the inputs as polled values. -/

namespace Sys2Proof.Machine

/-! ## The halted block (R133, R134) -/

/-- A halted block invokes no FREMIT (R133). -/
theorem emits_halted {s : State} (hf : s.fault = true) : s.emits = false := by
  simp [State.emits, hf]

theorem levelsOf_halted {s : State} {is : List Inputs} (hf : s.fault = true) (quiet : NoReset is) :
    levelsOf is s = [] := by
  induction is generalizing s with
  | nil => rfl
  | cons i is ih =>
    have halted : step (s.withInputs i) = .next (s.withInputs i).redraw := step_halted (quiet i (by simp)) hf
    have silent : (s.withInputs i).emits = false := emits_halted hf
    rw [levelsOf_cons halted, silent]
    exact ih (s := (s.withInputs i).redraw) hf fun j mem => quiet j (by simp [mem])

/-- Settles O35. -/
theorem haltedBlockIsFrozen : Obligations.HaltedBlockIsFrozen :=
  fun _ _ hf quiet => ⟨levelsOf_halted hf quiet, runTicks_halted hf quiet⟩

/-! ## The wait without an acknowledge (R137) -/

/-- The block waits for an acknowledge, on a counter whose wrap keeps the parity. -/
structure State.AwaitsAck (s : State) : Prop where
  ready : s.Ready
  phase : s.InAcknowledge
  width : 1 ≤ s.params.tickWidth

/-- A tick that reads the line low is ACK_WAIT, and the wait goes on (R110). -/
theorem State.AwaitsAck.exists_tick {s : State} (wait : s.AwaitsAck) {i : Inputs} (hi : i.rst = false)
    (low : i.dataIn = false) :
    ∃ t, step (s.withInputs i) = .next t ∧ t.AwaitsAck ∧ AfterTick s t { s.regs with dir := false } := by
  obtain ⟨ready, phase, width⟩ := wait
  obtain ⟨-, t, waited, after⟩ := ackWaitReleasesTheLine.2.2 (s.withInputs i) ⟨hi, ready⟩ phase low
  have ⟨regs, params, _⟩ := after
  have ready' : t.Ready :=
    ⟨(congrArg Registers.fault regs).trans ready.1, (congrArg Registers.sampleReq regs).trans ready.2⟩
  have phase' : t.InAcknowledge :=
    ⟨(congrArg Registers.ackf regs).trans phase.1, (congrArg Registers.txf regs).trans phase.2⟩
  exact ⟨t, waited, ⟨ready', phase', width.trans_eq (congrArg Params.tickWidth params.symm)⟩, after⟩

/-- A wait, by induction on its ticks: its last tick leaves what the tick of an acknowledge would, save that the state
stays ACKNOWLEDGE (R110, R111). -/
theorem waits_unacknowledged {s : State} {i : Inputs} {is : List Inputs} (wait : s.AwaitsAck)
    (quiet : NoReset (i :: is)) (low : ∀ j ∈ i :: is, j.dataIn = false) :
    ∃ t, RunsTo (i :: is) s [] t ∧ t.regs = { s.acknowledgedRegs is.length with ackf := true } := by
  have hi : i.rst = false := quiet i (by simp)
  have hd : i.dataIn = false := low i (by simp)
  induction is generalizing s i with
  | nil =>
    obtain ⟨t, waited, -, regs, -⟩ := wait.exists_tick hi hd
    refine ⟨t, .cons_of_silent waited (emits_eq_false wait.phase.2) ⟨rfl, rfl⟩, ?_⟩
    rw [regs, ← wait.phase.1]
    rfl
  | cons j js ih =>
    obtain ⟨t, waited, wait', after⟩ := wait.exists_tick hi hd
    have quiet' : NoReset (j :: js) := fun k mem => quiet k (List.mem_cons_of_mem _ mem)
    have low' : ∀ k ∈ j :: js, k.dataIn = false := fun k mem => low k (List.mem_cons_of_mem _ mem)
    obtain ⟨u, rest, done⟩ := ih wait' quiet' low' (quiet' j (by simp)) (low' j (by simp))
    refine ⟨u, .cons_of_silent waited (emits_eq_false wait.phase.2) rest, ?_⟩
    rw [done, acknowledgedRegs_of_waited wait.width after]
    rfl

/-- Settles O58: the clock has the parity of the count before the last TICKINC. -/
theorem noAcknowledgeNoProgress : Obligations.NoAcknowledgeNoProgress := by
  intro s is ready phase width quiet low nonempty
  cases is with
  | nil => cases nonempty
  | cons i is =>
    obtain ⟨t, ⟨run, levels⟩, regs⟩ := waits_unacknowledged ⟨ready, phase, width⟩ quiet low
    have parity : (s.tick + is.length) % 2 = 1 ↔ (s.tick + (i :: is).length) % 2 = 0 := by
      rw [List.length_cons]
      omega
    refine ⟨levels, t, run, ?_⟩
    rw [regs, State.acknowledgedRegs, decide_eq_decide.2 parity, ← phase.1]
    rfl

/-! ## The acquisition that never returns (R136) -/

/-- No step of a stuck block is enabled, whatever the inputs, as long as `rst` is released (log entry 2). -/
theorem run_of_stuck {s : State} {is : List Inputs} (hf : s.fault = false) (hq : s.sampleReq = true)
    (quiet : NoReset is) (nonempty : is ≠ []) :
    levelsOf is s = [] ∧ runTicks is s = .fault .stuckInAcquisition := by
  cases is with
  | nil => exact absurd rfl nonempty
  | cons i is =>
    have stuck : step (s.withInputs i) = .fault .stuckInAcquisition := step_stuck (quiet i (by simp)) hf hq
    simp [levelsOf, runTicks, stuck]

/-- Settles O59. -/
theorem stuckInAcquisition : Obligations.StuckInAcquisition := by
  rintro s i ⟨hf, hq⟩ ⟨ha, ht⟩ hg hr hv
  have asks : step (s.withInputs i) = .next (s.withInputs i).requestSample.redraw :=
    step_idleStuck hr hf hq ha ht hg hv
  have silent : (s.withInputs i).emits = false := emits_eq_false ht
  refine ⟨?_, _, asks, rfl, fun is quiet nonempty => run_of_stuck hf rfl quiet nonempty,
    fun j hj => ⟨_, step_reset hj, rfl⟩⟩
  rw [levelsOf_cons asks, silent]
  rfl

/-! ## The inputs as polled values (R139) -/

/-- Other inputs `i` for the coming step of `s` that agree with its own in `rst` and in every input the step polls: a
sampling tick polls the sample port, and its pattern once it is valid; an ACKNOWLEDGE tick polls the line. -/
structure State.SamePolls (s : State) (i : Inputs) : Prop where
  rst : i.rst = s.rst
  rawValid : s.Running → s.InIdle → s.tick % 50 = 0 → i.rawValid = s.rawValid
  rawIn : s.Running → s.InIdle → s.tick % 50 = 0 → s.rawValid = true → i.rawIn = s.rawIn
  dataIn : s.Running → s.InAcknowledge → i.dataIn = s.dataIn

/-- The state logic of a completed tick is the same under inputs that agree where it polls. -/
theorem TickLogic.withInputs {s u : State} (logic : TickLogic s u) (run : s.Running) {i : Inputs}
    (same : s.SamePolls i) : TickLogic (s.withInputs i) (u.withInputs i) := by
  cases logic with
  | idleWait ha ht hg => exact .idleWait ha ht hg
  | idleSample ha ht hg hv =>
    rw [← same.rawIn run ⟨ha, ht⟩ hg hv]
    exact .idleSample ha ht hg ((same.rawValid run ⟨ha, ht⟩ hg).trans hv)
  | txHold ha ht hp hz => exact .txHold ha ht hp hz
  | txHoldEnd ha ht hp hz => exact .txHoldEnd ha ht hp hz
  | txShift ha ht hp hz => exact .txShift ha ht hp hz
  | txShiftEnd ha ht hp hz => exact .txShiftEnd ha ht hp hz
  | ackWait ha ht hd => exact .ackWait ha ht ((same.dataIn run ⟨ha, ht⟩).trans hd)
  | ackDone ha ht hd => exact .ackDone ha ht ((same.dataIn run ⟨ha, ht⟩).trans hd)

/-- A step to a next state is the same under inputs that agree where it polls: no input outlives it. -/
theorem StepTo.step_withInputs {s t : State} (h : StepTo s t) {i : Inputs} (same : s.SamePolls i) :
    step (s.withInputs i) = .next t := by
  have rst : (s.withInputs i).rst = s.rst := same.rst
  cases h with
  | reset hr => exact step_reset (rst.trans hr)
  | halted hr hf => exact step_halted (rst.trans hr) hf
  | stuck run ha ht hg hv =>
    have ⟨hr, hf, hq⟩ := run
    exact step_idleStuck (rst.trans hr) hf hq ha ht hg ((same.rawValid run ⟨ha, ht⟩ hg).trans hv)
  | fatal run ha ht =>
    obtain ⟨hr, hf, hq⟩ := run
    exact step_fatal (rst.trans hr) hf hq ha ht
  | completed run logic => exact (logic.withInputs run same).step_eq ⟨rst.trans run.1, run.2⟩

/-- The whole outcome of a step depends on the inputs it polls only. -/
theorem step_withInputs_eq {s : State} {i : Inputs} (same : s.SamePolls i) : step (s.withInputs i) = step s := by
  by_cases stuck : s.rst = false ∧ s.fault = false ∧ s.sampleReq = true
  · obtain ⟨hr, hf, hq⟩ := stuck
    rw [step_stuck hr hf hq]
    exact step_stuck (same.rst.trans hr) hf hq
  · obtain ⟨t, h⟩ : ∃ t, step s = .next t := by
      cases hr : s.rst with
      | true => exact ⟨_, step_reset hr⟩
      | false =>
        cases hf : s.fault with
        | true => exact ⟨_, step_halted hr hf⟩
        | false => exact step_answers hr (by simpa [hr, hf] using stuck)
    rw [h]
    exact (stepTo_of_step h).step_withInputs same

/-- Settles O43: in each clause the inputs agree where the step polls. -/
theorem inputsAreReadOnlyWhenPolled : Obligations.InputsAreReadOnlyWhenPolled := by
  refine ⟨fun s p v unpolled => ?port, fun s p invalid => ?pattern, fun s b unpolled => ?line⟩
  case port =>
    exact step_withInputs_eq (i := { s.toInputs with rawIn := p, rawValid := v })
      { rst := rfl
        rawValid := fun run idle hg => absurd ⟨run, idle, hg⟩ unpolled
        rawIn := fun run idle hg _ => absurd ⟨run, idle, hg⟩ unpolled
        dataIn := fun _ _ => rfl }
  case pattern =>
    exact step_withInputs_eq (i := { s.toInputs with rawIn := p })
      { rst := rfl
        rawValid := fun _ _ _ => rfl
        rawIn := fun _ _ _ valid => absurd (invalid.symm.trans valid) Bool.false_ne_true
        dataIn := fun _ _ => rfl }
  case line =>
    exact step_withInputs_eq (i := { s.toInputs with dataIn := b })
      { rst := rfl
        rawValid := fun _ _ _ => rfl
        rawIn := fun _ _ _ _ => rfl
        dataIn := fun run ack => absurd ⟨run, ack⟩ unpolled }

end Sys2Proof.Machine
end

section
/-! PROOFS. Reset and the hazards (spec/70_reset_and_hazards.md): a step under reset, and the release of the last slot
before its clock rise. -/

namespace Sys2Proof.Machine

/-! ## Reset (R149) -/

/-- Settles O32: `step_reset` does not look at the block, so a halted or stuck one is reset like any other. -/
theorem resetRestoresEveryRegister : Obligations.ResetRestoresEveryRegister := by
  intro s asserted
  exact ⟨s.applyReset.redraw, step_reset asserted, by simp⟩

/-! ## The last slot (R164) -/

/-- The block outside IDLE has nothing to wait for: a tick with legal flags completes (43_clock_divider.md R126). -/
theorem completes_of_not_inIdle {s : State} (run : s.Running) (legal : s.FlagsLegal) (busy : ¬s.InIdle) : s.Completes :=
  ⟨run, legal, fun idle => absurd idle busy⟩

/-- The state logic of an ACKNOWLEDGE tick releases the line at either level it reads (42_link_fsm.md R110, R111). -/
theorem afterLogic_releases {s : State} (phase : s.InAcknowledge) : ∃ u, s.afterLogic = .next u ∧ u.dir = false := by
  have op := op_acknowledge phase.1 phase.2
  cases hd : s.dataIn with
  | false =>
    have wait : s.op = .ackWait := by simp [op, hd]
    exact ⟨s.setDir false, by rw [State.afterLogic, wait]; rfl, rfl⟩
  | true =>
    have done : s.op = .ackDone := by simp [op, hd]
    exact ⟨(s.setDir false).setPhase .idle, by rw [State.afterLogic, done]; rfl, rfl⟩

/-- An odd ACKNOWLEDGE tick that finds the clock low releases the line before it raises the clock (20_memory.md R57). -/
theorem releases_before_clock_rise {s : State} (run : s.Running) (phase : s.InAcknowledge) (low : s.clk = false)
    (odd : s.tick % 2 = 1) :
    ∃ u v, s.afterLogic = .next u ∧ u.dir = false ∧ u.clk = false ∧
      s.afterClock = .next v ∧ v.dir = false ∧ v.clk = true := by
  have completes : s.Completes := completes_of_not_inIdle run (by simp [State.FlagsLegal, phase.2])
    (by simp [State.InIdle, phase.1])
  obtain ⟨u, logic, released⟩ := afterLogic_releases phase
  obtain ⟨clk, -, ticks⟩ := stateLogicPrecedesClockPrecedesCounter s u run logic
  obtain ⟨v, -, clock, rfl, -⟩ := ticks completes
  exact ⟨u, _, logic, released, clk.trans low, clock, released, decide_eq_true odd⟩

/-- Settles O56: the tick that shifts the frame 1 out is TX_SHIFT_END (O6), and the one after it an odd ACKNOWLEDGE
tick. -/
theorem lastSlotIsReleasedBeforeItsClockRise : Obligations.LastSlotIsReleasedBeforeItsClockRise := by
  intro s t i width run phase driven last even h released
  obtain ⟨-, -, t', ended, regs, -⟩ := txShiftEndEntersAcknowledge.2.2 s run phase even (by simp [last])
  cases ended.symm.trans h
  have counted : t.tick = (s.tick + 1) % 2 ^ s.params.tickWidth := congrArg Registers.tick regs
  have dir : t.dir = true := (congrArg Registers.dir regs).trans driven
  have dout : t.dout = 0xFE := (congrArg Registers.dout regs).trans (if_pos last)
  have clk : t.clk = false := (congrArg Registers.clk regs).trans (by simp [even])
  have odd : t.tick % 2 = 1 := by
    rw [counted, parity_of_wrapped _ _ width]
    omega
  have phase' : t.InAcknowledge := ⟨congrArg Registers.ackf regs, congrArg Registers.txf regs⟩
  have ready' : t.Ready :=
    ⟨(congrArg Registers.fault regs).trans run.2.1, (congrArg Registers.sampleReq regs).trans run.2.2⟩
  refine ⟨dir, ?_, clk, releases_before_clock_rise (s := t.withInputs i) ⟨released, ready'⟩ phase' clk odd⟩
  rw [dout]
  rfl

end Sys2Proof.Machine
end
